-- ==== Sys2Proof/Word.lean ====
section
/-! DEFINITION. The machine's words and the per-channel vector: 32-bit registers (R18), bytes of the
frame buffers (R14), 64-bit clock readings (R8) and the six channels in their fixed order (R15). -/

namespace Sys2Proof

/-- A 32-bit register of the host register file (`10_state.md` R18). -/
abbrev Word := BitVec 32

/-- One byte of a frame buffer or of the wire (`00_scope.md` R14). -/
abbrev Byte := BitVec 8

/-- A reading of the Clock input `now`: 64-bit ticks (`00_scope.md` R8). -/
abbrev Ticks := BitVec 64

/-- A channel index, `ch = 0..5` (`00_scope.md` R15). -/
abbrev Channel := Fin 6

/-- Six like things, one for each channel, in the fixed channel order of `00_scope.md` R15. -/
structure Six (α : Type) where
  /-- channel 0 -/
  index : α
  /-- channel 1 -/
  middle : α
  /-- channel 2 -/
  ring : α
  /-- channel 3 -/
  pinky : α
  /-- channel 4 -/
  thumbFlexor : α
  /-- channel 5, the thumb rotator -/
  thumbRotator : α
deriving DecidableEq, Repr

/-- The entry of channel `ch`. -/
def Six.get {α : Type} (v : Six α) (ch : Channel) : α :=
  match ch with
  | 0 => v.index
  | 1 => v.middle
  | 2 => v.ring
  | 3 => v.pinky
  | 4 => v.thumbFlexor
  | 5 => v.thumbRotator

/-- The vector whose entry for channel `ch` is `f ch`. -/
def Six.ofFn {α : Type} (f : Channel → α) : Six α :=
  ⟨f 0, f 1, f 2, f 3, f 4, f 5⟩

/-- The vector that holds `x` on every channel. -/
def Six.all {α : Type} (x : α) : Six α := Six.ofFn fun _ => x

/-- `v` with channel `ch` replaced by `x`. -/
def Six.set {α : Type} (v : Six α) (ch : Channel) (x : α) : Six α :=
  Six.ofFn fun c => if c = ch then x else v.get c

/-- Does some channel satisfy `p`? -/
def Six.anyCh (p : Channel → Bool) : Bool := p 0 || p 1 || p 2 || p 3 || p 4 || p 5

end Sys2Proof
end

