-- ==== Sys2Proof/Syntax.lean ====
section
/-! DEFINITION. The command set: one constructor per row of `spec/opcode_table.json`
(`30_encoding.md` R72). -/

namespace Sys2Proof

/-- The buffer a format B command names (`30_encoding.md` R71): `BUF` = 0 is `TXBUF`, 1 is `RXBUF`. -/
inductive Buf where
  | tx
  | rx
deriving DecidableEq, Repr

/-- The 19 commands. `len` is the byte count `LEN` of format B and `ch` the channel index `CH` of
format C (`30_encoding.md` R70, R71). -/
inductive Instr where
  | nop
  | cksump (buf : Buf) (len : Nat)
  | cksumf (buf : Buf) (len : Nat)
  | valid (buf : Buf) (len : Nat)
  | encpos
  | encvolt
  | encraw
  | decode
  | cvtd2r
  | cvtr2d
  | cvtv2e (ch : Nat)
  | cvtc2p
  | gen
  | ctlaw
  | init
  | start
  | stop
  | reset
  | cycle1
deriving DecidableEq, Repr

end Sys2Proof
end

