-- ==== Sys2Proof/WellFormed.lean ====
section
/-! DEFINITION. Which instruction terms have a command word: `LEN` has 8 bits and `CH` has 3
(`30_encoding.md` R70, R71). `CH` = 6 and 7 are well formed: they decode, and the command refuses
them with BAD_OPERAND. -/

namespace Sys2Proof

/-- The operand fields fit their encoding fields, as a check that runs. -/
def Instr.wellFormed (i : Instr) : Bool :=
  match i with
  | .cksump _ len => len < 256
  | .cksumf _ len => len < 256
  | .valid _ len => len < 256
  | .cvtv2e ch => ch < 8
  | .nop | .encpos | .encvolt | .encraw | .decode | .cvtd2r | .cvtr2d | .cvtc2p | .gen | .ctlaw
  | .init | .start | .stop | .reset | .cycle1 => true

/-- The operand fields fit their encoding fields. -/
abbrev Instr.WellFormed (i : Instr) : Prop := i.wellFormed = true

end Sys2Proof
end

