-- ==== Sys2Proof/Decode.lean ====
section
/-! DEFINITION. Decoding and encoding of command words (`30_encoding.md` R69 to R75). A command is one
32-bit word; the decoder is total and rejects by name. -/

namespace Sys2Proof

/-- Why a command word is illegal (`30_encoding.md` R73). Both complete with `CMD_ERR` = ILLEGAL. -/
inductive DecodeError where
  /-- `OPC` is not in the opcode map of R72 (check 1 of R75). -/
  | unknownOpcode
  /-- a must-be-zero bit of the format is set (check 2 of R75). -/
  | reservedBits
deriving DecidableEq, Repr

/-- `OPC = word[7:0]` (R71). -/
def opcField (w : Word) : Nat := (w.extractLsb' 0 8).toNat

/-- `BUF = word[8]`: 0 is `TXBUF`, 1 is `RXBUF` (R71). -/
def bufField (w : Word) : Buf := if w.extractLsb' 8 1 = 0#1 then .tx else .rx

/-- `LEN = word[23:16]`, unsigned and unscaled (R71). -/
def lenField (w : Word) : Nat := (w.extractLsb' 16 8).toNat

/-- `CH = word[10:8]`, unsigned (R71). -/
def chField (w : Word) : Nat := (w.extractLsb' 8 3).toNat

/-- Format N: bits 31..8 are zero (R70). -/
def formatN (w : Word) (i : Instr) : Except DecodeError Instr :=
  if w.extractLsb' 8 24 = 0#24 then .ok i else .error .reservedBits

/-- Format B: bits 31..24 and 15..9 are zero (R70). -/
def formatB (w : Word) (i : Buf → Nat → Instr) : Except DecodeError Instr :=
  if w.extractLsb' 24 8 = 0#8 ∧ w.extractLsb' 9 7 = 0#7 then .ok (i (bufField w) (lenField w))
  else .error .reservedBits

/-- Format C: bits 31..11 are zero (R70). -/
def formatC (w : Word) (i : Nat → Instr) : Except DecodeError Instr :=
  if w.extractLsb' 11 21 = 0#21 then .ok (i (chField w)) else .error .reservedBits

/-- Checks 1 and 2 of R75 and operand assembly of R71, by the opcode map of R72. -/
def decodeWord (w : Word) : Except DecodeError Instr :=
  match opcField w with
  | 0x00 => formatN w .nop
  | 0x01 => formatB w .cksump
  | 0x02 => formatB w .cksumf
  | 0x03 => formatB w .valid
  | 0x10 => formatN w .encpos
  | 0x11 => formatN w .encvolt
  | 0x12 => formatN w .encraw
  | 0x20 => formatN w .decode
  | 0x30 => formatN w .cvtd2r
  | 0x31 => formatN w .cvtr2d
  | 0x32 => formatC w .cvtv2e
  | 0x33 => formatN w .cvtc2p
  | 0x40 => formatN w .gen
  | 0x41 => formatN w .ctlaw
  | 0x50 => formatN w .init
  | 0x51 => formatN w .start
  | 0x52 => formatN w .stop
  | 0x53 => formatN w .reset
  | 0x54 => formatN w .cycle1
  | _ => .error .unknownOpcode

/-- The instruction read from a table row's bits: the command word is one 32-bit register value, so
its bits stand as the table numbers them (R69, R10). -/
def decodeTableWord (nbits w : Nat) : Option Instr :=
  (decodeWord (BitVec.ofNat 32 (w % 2 ^ nbits))).toOption

/-- The bit `BUF` of format B (R71). -/
def Buf.bit (b : Buf) : Word :=
  match b with
  | .tx => 0
  | .rx => 1

/-- `OPC | BUF<<8 | LEN<<16` (R78). -/
def wordB (opc : Word) (b : Buf) (len : Nat) : Word :=
  opc ||| (b.bit <<< 8) ||| (BitVec.ofNat 32 len <<< 16)

/-- `OPC | CH<<8` (R78). -/
def wordC (opc : Word) (ch : Nat) : Word := opc ||| (BitVec.ofNat 32 ch <<< 8)

/-- The assembled command word of a well-formed instruction (R78). -/
def encode (i : Instr) : Word :=
  match i with
  | .nop => 0x00
  | .cksump b len => wordB 0x01 b len
  | .cksumf b len => wordB 0x02 b len
  | .valid b len => wordB 0x03 b len
  | .encpos => 0x10
  | .encvolt => 0x11
  | .encraw => 0x12
  | .decode => 0x20
  | .cvtd2r => 0x30
  | .cvtr2d => 0x31
  | .cvtv2e ch => wordC 0x32 ch
  | .cvtc2p => 0x33
  | .gen => 0x40
  | .ctlaw => 0x41
  | .init => 0x50
  | .start => 0x51
  | .stop => 0x52
  | .reset => 0x53
  | .cycle1 => 0x54

/-- The match and mask of an instruction's format (R72): a word is this instruction's, with some
operands, when its bits under the mask are the match. -/
def matchMask (i : Instr) : Word × Word :=
  match i with
  | .nop => (0x00, 0xFFFFFFFF)
  | .cksump _ _ => (0x01, 0xFF00FEFF)
  | .cksumf _ _ => (0x02, 0xFF00FEFF)
  | .valid _ _ => (0x03, 0xFF00FEFF)
  | .encpos => (0x10, 0xFFFFFFFF)
  | .encvolt => (0x11, 0xFFFFFFFF)
  | .encraw => (0x12, 0xFFFFFFFF)
  | .decode => (0x20, 0xFFFFFFFF)
  | .cvtd2r => (0x30, 0xFFFFFFFF)
  | .cvtr2d => (0x31, 0xFFFFFFFF)
  | .cvtv2e _ => (0x32, 0xFFFFF8FF)
  | .cvtc2p => (0x33, 0xFFFFFFFF)
  | .gen => (0x40, 0xFFFFFFFF)
  | .ctlaw => (0x41, 0xFFFFFFFF)
  | .init => (0x50, 0xFFFFFFFF)
  | .start => (0x51, 0xFFFFFFFF)
  | .stop => (0x52, 0xFFFFFFFF)
  | .reset => (0x53, 0xFFFFFFFF)
  | .cycle1 => (0x54, 0xFFFFFFFF)

end Sys2Proof
end

