-- ==== Sys2Proof/Config.lean ====
section
/-! DEFINITION. What an implementation fixes (`00_scope.md` R9) and the free values: opaque
constants, about whose values nothing can be proved. -/

namespace Sys2Proof

/-- What the Transport agent may answer to a request (`60_exceptions.md` R152). `ok rx` is OK; for an
EXCHANGE it carries the received bytes. `initFail` is INIT_FAIL of an OPEN. How an answer is read for
each kind of request is `Machine.answerOpen`, `Machine.answerExchange` and `Machine.answerClose`. -/
inductive Answer where
  | ok (rx : List Byte)
  | fail
  | initFail
deriving DecidableEq, Repr, Inhabited

namespace Config

/-- `TX_MAX`, bytes in `TXBUF` (R9). -/
def txMax : Nat := 64

/-- `RX_MAX`, bytes in `RXBUF` (R9). -/
def rxMax : Nat := 128

/-- `TOUCH_MAX`, entries of `TOUCH` (R9). -/
def touchMax : Nat := 64

/-- `ID_VALUE`, the constant of register `ID` (R9, R21). -/
def idValue : Word := 0x48500007

/-- `CH_SHIFT`, the binary-angle value of one radian (R9, R117). -/
def chShift : Nat := 683565276

/-- `TICK_HZ`, ticks of `now` per second (R9, OPEN). No rule computes with it (entry 19). -/
opaque tickHz : Nat

/-- The sine between the four angles that R118 fixes: free. Only `Machine.sinq` reads it, which adds
the constraints of R118 (entry 12). -/
opaque sine : Word → Int

/-- The value the Clock presents when the schedule says nothing: free for each draw (R8, entry 3).
Only `State.unscripted` reads it, which never lets `now` decrease. -/
opaque clock : Nat → Ticks

/-- The Transport's answer when the schedule says nothing: free for each draw (R153, entry 4). -/
opaque answer : Nat → Answer

/-- A byte read at an index beyond the end of a frame buffer: free for each draw and index
(entry 11). -/
opaque absentByte : Nat → Nat → Byte

end Config

end Sys2Proof
end

