-- ==== Sys2Proof/Machine/Arith.lean ====
section
/-! DEFINITION. Arithmetic of `00_scope.md` R11 to R13 and the unit conversions of `41_converter.md`
R92 to R96, on exact integers. -/

namespace Sys2Proof.Machine

/-- `sat_lo_hi(v)` (R11). -/
def sat (lo hi v : Int) : Int := min hi (max lo v)

/-- `sat16(v)` (R11). -/
def sat16 (v : Int) : Int := sat (-32768) 32767 v

/-- `sat32(v)` (R11). -/
def sat32 (v : Int) : Int := sat (-2147483648) 2147483647 v

/-- `rhaz(n, d)`: the integer nearest to `n/d`, ties away from zero, for `d ≠ 0` (R12). -/
def rhaz (n d : Int) : Int :=
  (n * d.sign).sign * ((2 * (n.natAbs : Int) + d.natAbs) / (2 * d.natAbs))

/-- `trunc(n, d)`: `n/d` rounded toward zero, for `d ≠ 0` (R12). -/
def trunc (n d : Int) : Int := (n * d).sign * ((n.natAbs : Int) / d.natAbs)

/-- `sext_32` of a register. -/
def sext32 (w : Word) : Int := w.toInt

/-- `wrap_32` of an exact integer. -/
def wrap32 (v : Int) : Word := BitVec.ofInt 32 v

/-- `wrap_16` of an exact integer. -/
def wrap16 (v : Int) : BitVec 16 := BitVec.ofInt 16 v

/-- `wrap_8` of an exact integer. -/
def wrap8 (v : Int) : Byte := BitVec.ofInt 8 v

/-- `sext_8` of an exact integer: the value of its low 8 bits read as two's complement (R11). -/
def sext8 (v : Int) : Int := (BitVec.ofInt 8 v).toInt

/-- Degrees to raw, `d2r(q)`, `q` in Q16.16 (R92). -/
def d2r (q : Int) : Int := sat16 (rhaz (q * 32767) (150 * 65536))

/-- `d2r_range(q)`: the angle's magnitude exceeds 150 degrees (R92). -/
def d2rRange (q : Int) : Bool := decide (150 * 65536 < q.natAbs)

/-- Raw to degrees, `r2d(raw)` (R93). -/
def r2d (raw : Int) : Int := rhaz (raw * 150 * 65536) 32767

/-- Raw velocity to engineering units, `v2e(raw, ch)`: 2596 on channels 0 to 4, 3249/5 on channel 5
(R94). -/
def v2e (raw : Int) (ch : Nat) : Int :=
  if ch = 5 then rhaz (raw * 65536 * 5) 3249 else rhaz (raw * 65536) 2596

/-- Raw current byte to physical current, `c2p(b)`; `signed` is `LAYOUT2.CUR_SIGNED` (R95). -/
def c2p (signed : Bool) (b : Byte) : Int :=
  rhaz ((if signed then b.toInt else (b.toNat : Int)) * 65536 * 27) 350000

/-- Volts to raw, `v2raw(q)`: integer volts, the fraction discarded toward zero (R96). -/
def v2raw (q : Int) : Int := sat16 (trunc q 65536)

/-- `v2raw_range(q)` (R96). -/
def v2rawRange (q : Int) : Bool :=
  decide (trunc q 65536 < -32768) || decide (32767 < trunc q 65536)

/-- `SINQ(a)`: any function that R118 admits. The four required angles have their required values; at
every other angle it is the free value `Config.sine` brought into -65536..65536 (entry 12). -/
def sinq (a : Word) : Int :=
  if a = 0x00000000#32 then 0
  else if a = 0x40000000#32 then 65536
  else if a = 0x80000000#32 then 0
  else if a = 0xC0000000#32 then -65536
  else sat (-65536) 65536 (Config.sine a)

end Sys2Proof.Machine
end

