-- ==== Sys2Proof/Machine/State.lean ====
section
/-! DEFINITION. Every piece of state the spec gives the block (`10_state.md` R17 to R51), the block's
surroundings (agents' turns to come, Clock, host bus, reset input), the reasons a step can stop, and
the state after reset (`70_reset_and_hazards.md` R161). -/

namespace Sys2Proof.Machine

/-- The loop states held in `STATUS.STATE` (`45_loop.md` R125). -/
inductive LoopState where
  | idle
  | initialized
  | running
  | stopped
deriving DecidableEq, Repr

/-- The sequencer's stages held in `STATUS.STAGE` (`10_state.md` R19, `45_loop.md` R127). -/
inductive Stage where
  | boundary
  | sample
  | generate
  | control
  | encode
  | exchange
  | decode
  | pace
deriving DecidableEq, Repr

/-- The error codes 0 to 9 of `60_exceptions.md` R145; codes 10 to 15 do not exist here. -/
inductive ErrCode where
  | none
  | illegal
  | badOperand
  | state
  | openFail
  | initFail
  | exchangeFail
  | closeFail
  | unpack
  | config
deriving DecidableEq, Repr

/-- The fields of `STATUS` (`10_state.md` R23); bits 31..14 do not exist and read 0. -/
structure Status where
  /-- `STATE`, bits 1..0 -/
  state : LoopState
  /-- `BUSY`, bit 2: a command is pending or executing -/
  busy : Bool
  /-- `VALID`, bit 3: result of the most recent validation -/
  valid : Bool
  /-- `STOPREQ`, bit 4: a STOP was accepted in RUNNING -/
  stopReq : Bool
  /-- `STAGE`, bits 7..5 -/
  stage : Stage
  /-- `RANGE`, bit 8, W1C -/
  range : Bool
  /-- `COLLIDE`, bit 9, W1C -/
  collide : Bool
  /-- `OVERRUN`, bit 10, W1C -/
  overrun : Bool
  /-- `BUSERR`, bit 11, W1C -/
  busErr : Bool
  /-- `LATE`, bit 12, W1C -/
  late : Bool
  /-- `LINK`, bit 13: the transport link is open -/
  link : Bool
deriving DecidableEq, Repr

/-- The fields of `ERR` (`10_state.md` R26). -/
structure ErrReg where
  /-- `CMD_ERR`, bits 3..0 -/
  cmdErr : ErrCode
  /-- `FATAL_CODE`, bits 11..8 -/
  fatalCode : ErrCode
  /-- `FATAL_STAGE`, bits 14..12 -/
  fatalStage : Stage
deriving DecidableEq, Repr

/-- The registers that only the host writes; they are the ones the command RESET keeps
(`45_loop.md` R142; `ID` beside them is a constant). Widths are those of the existing bits:
reserved bits do not exist here and read 0. -/
structure Settings where
  /-- `CTRL`: MODE bits 1..0, GEN bits 3..2 (R22) -/
  ctrl : BitVec 4
  /-- `CMD`: the last accepted command word (R24) -/
  cmd : Word
  /-- `IE` (R27) -/
  ie : BitVec 5
  /-- `PERIOD` (R32) -/
  period : Word
  /-- `K_GAIN` (R33) -/
  kGain : Word
  /-- `PHASE_RATE` (R34) -/
  phaseRate : Word
  /-- `SIN_AMP` (R35) -/
  sinAmp : Word
  /-- `SIN_OFF` (R35) -/
  sinOff : Word
  /-- `PTR_SENS` (R36) -/
  ptrSens : Word
  /-- `PTR_IN` (R36) -/
  ptrIn : Word
  /-- `CVT_IN` (R37) -/
  cvtIn : Word
  /-- `PROTO`: ADDR 7..0, MODE_POS 15..8, MODE_VOLT 23..16 (R39) -/
  proto : BitVec 24
  /-- `LAYOUT`: POS_OFF 7..0, VEL_OFF 15..8, CUR_OFF 23..16, TOUCH_OFF 31..24 (R40) -/
  layout : Word
  /-- `LAYOUT2`: CUR_STRIDE 7..0, TOUCH_COUNT 15..8, TOUCH_ORDER 16, DEC_NEG5 17, CUR_SIGNED 18
  (R41) -/
  layout2 : BitVec 19
  /-- `SETPOINT[0..5]` (R42) -/
  setpoint : Six Word
deriving DecidableEq, Repr

/-- The decoded feedback, published as one snapshot by a decode (`10_state.md` R45 to R47,
`20_memory.md` R64). -/
structure Feedback where
  /-- `FB_POS[0..5]` -/
  pos : Six Word
  /-- `FB_VEL[0..5]` -/
  vel : Six Word
  /-- `FB_CUR[0..5]` -/
  cur : Six Word
  /-- `RAWPV[0..5]` -/
  rawPV : Six Word
  /-- `RAWC[0..5]`, bits 7..0 -/
  rawC : Six Byte
  /-- `TOUCH[0..63]`, bits 11..0 -/
  touch : Vector (BitVec 12) 64
deriving DecidableEq, Repr

/-- A frame buffer: the bytes that differ from what an unlisted byte reads, as pairs (index, byte) in
rising order of index. `Memory.wf` says the form; `Ops.lean` holds the operations. -/
abbrev Memory := List Host.Cell

/-- What an unlisted byte of a frame buffer reads: 0, every byte's reset value (R161, entry 15). -/
def blankByte : Byte := 0

/-- `XFER`, the transport request in flight (`10_state.md` R51, `60_exceptions.md` R152). An EXCHANGE
carries the copy of the bytes handed to the Transport (`45_loop.md` R134, entry 7). -/
inductive Xfer where
  | none
  | opening
  | exchange (tx : List Byte)
  | closing
deriving DecidableEq, Repr

/-- `AFTER_CLOSE`, what a pending CLOSE leads to (`10_state.md` R51). -/
inductive AfterClose where
  | stopped
  | idle
deriving DecidableEq, Repr

/-- A host bus access (`20_memory.md` R55, R56): byte offset, width in bits and, for a write, the
value. -/
inductive HostAccess where
  | read (addr : Nat) (width : Nat)
  | write (addr : Nat) (width : Nat) (v : Word)
deriving DecidableEq, Repr

/-- One turn in the total order of all agents' steps (`00_scope.md` R8, `20_memory.md` R65,
entry 1). -/
inductive Turn where
  /-- the Engine may take a step (`45_loop.md` R126) -/
  | engine
  /-- one host bus access -/
  | host (a : HostAccess)
  /-- the Transport answers the request in flight -/
  | transport (a : Answer)
  /-- the Clock input takes the value `t`, if that is no decrease -/
  | clock (t : Ticks)
  /-- the reset input is asserted or released (`70_reset_and_hazards.md` R160) -/
  | resetPin (asserted : Bool)
deriving DecidableEq, Repr

/-- The block's surroundings. These are the MODEL's fields, not the spec's registers (entries 1, 5). -/
structure Env where
  /-- the turns still to come; empty means that the block goes on by itself -/
  agenda : List Turn
  /-- the Clock input's present value (R8) -/
  now : Ticks
  /-- what the last host read returned (R55) -/
  busOut : Word
  /-- is the reset input asserted? (R160) -/
  resetPin : Bool
  /-- how many steps have been taken; indexes the free values -/
  draws : Nat
deriving DecidableEq, Repr

/-- The whole machine (`10_state.md` R17). -/
structure State where
  /-- the host-written registers -/
  cfg : Settings
  /-- `STATUS` (R23) -/
  status : Status
  /-- `ERR` (R26) -/
  err : ErrReg
  /-- `IP` (R28): CMD_DONE 0, CYCLE_DONE 1, FATAL 2, CKERR 3, RANGE 4 -/
  ip : BitVec 5
  /-- `RESULT` (R25) -/
  result : Word
  /-- `CKERR_CNT` (R29) -/
  ckerrCnt : Word
  /-- `CYCLE_CNT` (R29) -/
  cycleCnt : Word
  /-- `SEQ` (R29) -/
  seq : Word
  /-- `ELAPSED` (R30) -/
  elapsed : Word
  /-- `PHASE` (R31) -/
  phase : Word
  /-- `CVT_OUT` (R37) -/
  cvtOut : Word
  /-- `TX_LEN` bits 7..0 (R38) -/
  txLen : BitVec 8
  /-- `RX_LEN` bits 7..0 (R38) -/
  rxLen : BitVec 8
  /-- `TGT[0..5]` (R43) -/
  tgt : Six Word
  /-- `CMDV[0..5]` (R44) -/
  cmdv : Six Word
  /-- `FB_POS`, `FB_VEL`, `FB_CUR`, `RAWPV`, `RAWC`, `TOUCH` (R45 to R47) -/
  fb : Feedback
  /-- `TXBUF` (R48) -/
  txbuf : Memory
  /-- `RXBUF` (R49) -/
  rxbuf : Memory
  /-- hidden `PENDING`: the accepted command word awaiting completion (R51) -/
  pending : Option Word
  /-- hidden `T0`: the time origin (R51) -/
  t0 : Ticks
  /-- hidden `TA`: `now` at the cycle's SAMPLE (R51) -/
  ta : Ticks
  /-- hidden `XFER` (R51) -/
  xfer : Xfer
  /-- hidden `ONE_SHOT`: a CYCLE1 cycle is in progress (R51) -/
  oneShot : Bool
  /-- hidden `AFTER_CLOSE` (R51) -/
  afterClose : AfterClose
  /-- the surroundings -/
  env : Env
deriving DecidableEq, Repr

/-- Why a step stops with a fault. Each is raised by a loop stage that finds a configuration which the
checks of `45_loop.md` R139 refuse before a cycle starts and which cannot change during one, so no run
from reset reaches it (entry 13). All are SAFE: the model stops where the spec gives no effect. -/
inductive Fault where
  /-- stage GENERATE with the reserved generator 3, or POINTER with `PTR_SENS` = 0 (R116, R119). Safe. -/
  | generatorUnconfigured
  /-- stage ENCODE in RAW mode with `TX_LEN` outside 5..`TX_MAX` (R133). Safe. -/
  | rawLengthUnconfigured
  /-- stage EXCHANGE with `TX_LEN` above `TX_MAX`: bytes that do not exist (R134). Safe. -/
  | exchangeLengthUnconfigured
deriving DecidableEq, Repr

/-- Why a step is refused. -/
inductive Refusal where
  /-- raised only by `exec`'s arm of an instruction that has no meaning yet; no arm does. Safe. -/
  | notModelled (mnemonic : String)
deriving DecidableEq, Repr

/-- What one step, one meaning or one stage answers. -/
abbrev Outcome := Host.Outcome State Fault Refusal

/-- `STATUS` = 0 (R161). -/
def Status.reset : Status :=
  { state := .idle, busy := false, valid := false, stopReq := false, stage := .boundary
    range := false, collide := false, overrun := false, busErr := false, late := false
    link := false }

/-- `ERR` = 0 (R161). -/
def ErrReg.reset : ErrReg := { cmdErr := .none, fatalCode := .none, fatalStage := .boundary }

/-- The reset values of the host-written registers (R161). -/
def Settings.reset : Settings :=
  { ctrl := 0, cmd := 0, ie := 0, period := 0, kGain := 0, phaseRate := 0
    sinAmp := 0x00168000, sinOff := 0x001E0000, ptrSens := 0, ptrIn := 0, cvtIn := 0
    proto := 0x001050, layout := 0x00000403, layout2 := 0x00001, setpoint := Six.all 0 }

/-- Every feedback register 0 (R161). -/
def Feedback.reset : Feedback :=
  { pos := Six.all 0, vel := Six.all 0, cur := Six.all 0, rawPV := Six.all 0, rawC := Six.all 0
    touch := Vector.replicate 64 0 }

/-- The surroundings of `State.reset`: nothing scheduled, the Clock at 0, the reset input released
(the model's own fields, DESIGN CHOICE, entry 5). -/
def Env.reset : Env := { agenda := [], now := 0, busOut := 0, resetPin := false, draws := 0 }

/-- The block with every piece of its state at its reset value (R161), in the surroundings `e`. -/
def State.resetIn (e : Env) : State :=
  { cfg := Settings.reset, status := Status.reset, err := ErrReg.reset, ip := 0, result := 0
    ckerrCnt := 0, cycleCnt := 0, seq := 0, elapsed := 0, phase := 0, cvtOut := 0
    txLen := 0, rxLen := 0, tgt := Six.all 0, cmdv := Six.all 0, fb := Feedback.reset
    txbuf := [], rxbuf := [], pending := none, t0 := 0, ta := 0, xfer := .none, oneShot := false
    afterClose := .stopped, env := e }

/-- The machine right after reset (`70_reset_and_hazards.md` R161). -/
def State.reset : State := State.resetIn Env.reset

end Sys2Proof.Machine
end

