-- ==== Sys2Proof/Machine/Flags.lean ====
section
/-! DEFINITION. The flags: `IP` bits and the `STATUS` flags that commands and stages write
(`10_state.md` R23, R28, R50; `60_exceptions.md` R149). -/

namespace Sys2Proof.Machine

/-- `IP.CMD_DONE`, bit 0 (R28). -/
def ipCmdDone : BitVec 5 := 0b00001

/-- `IP.CYCLE_DONE`, bit 1 (R28). -/
def ipCycleDone : BitVec 5 := 0b00010

/-- `IP.FATAL`, bit 2 (R28). -/
def ipFatal : BitVec 5 := 0b00100

/-- `IP.CKERR`, bit 3 (R28). -/
def ipCkerr : BitVec 5 := 0b01000

/-- `IP.RANGE`, bit 4 (R28). -/
def ipRange : BitVec 5 := 0b10000

/-- A range event when `hit`: `STATUS.RANGE` and `IP.RANGE` are set (`41_converter.md` R97). -/
def rangeEvent (hit : Bool) (s : State) : State :=
  if hit then { s with status := { s.status with range := true }, ip := s.ip ||| ipRange } else s

/-- Records the result of a validation in `STATUS.VALID` (R23). -/
def setValid (v : Bool) (s : State) : State := { s with status := { s.status with valid := v } }

/-- Moves the sequencer to stage `g` (`10_state.md` R19). -/
def setStage (g : Stage) (s : State) : State := { s with status := { s.status with stage := g } }

/-- The deadline `TA + PERIOD` of the present cycle, as an exact sum (`45_loop.md` R136, entry 10). -/
def deadline (s : State) : Nat := s.ta.toNat + s.cfg.period.toNat

/-- The late check at the end of stage DECODE (`45_loop.md` R135). -/
def lateCheck (s : State) : State :=
  if s.cfg.period ≠ 0 ∧ deadline s < s.env.now.toNat then
    { s with status := { s.status with late := true } }
  else s

/-- The interrupt output: `irq = OR over i of (IE[i] AND IP[i])` (`60_exceptions.md` R149). -/
def irq (s : State) : Bool := (s.cfg.ie &&& s.ip) != 0

end Sys2Proof.Machine
end

