-- ==== Sys2Proof/Machine/Operands.lean ====
section
/-! DEFINITION. The fields of the host-written registers, in the forms the commands and stages read
them, and the configuration checks of `45_loop.md` R139. -/

namespace Sys2Proof.Machine

/-- `CTRL.MODE` (`10_state.md` R22). -/
inductive Mode where
  | pos
  | voltOl
  | voltCl
  | raw
deriving DecidableEq, Repr

/-- `CTRL.GEN` (`10_state.md` R22). -/
inductive Generator where
  | direct
  | wave
  | pointer
  | reserved
deriving DecidableEq, Repr

/-- `CTRL.MODE`, bits 1..0 (R22). -/
def ctrlMode (s : State) : Mode :=
  match (s.cfg.ctrl.extractLsb' 0 2).toFin with
  | 0 => .pos
  | 1 => .voltOl
  | 2 => .voltCl
  | 3 => .raw

/-- `CTRL.GEN`, bits 3..2 (R22). -/
def ctrlGen (s : State) : Generator :=
  match (s.cfg.ctrl.extractLsb' 2 2).toFin with
  | 0 => .direct
  | 1 => .wave
  | 2 => .pointer
  | 3 => .reserved

/-- `PROTO.ADDR` (R39). -/
def protoAddr (s : State) : Byte := s.cfg.proto.extractLsb' 0 8

/-- `PROTO.MODE_POS` (R39). -/
def protoModePos (s : State) : Byte := s.cfg.proto.extractLsb' 8 8

/-- `PROTO.MODE_VOLT` (R39). -/
def protoModeVolt (s : State) : Byte := s.cfg.proto.extractLsb' 16 8

/-- `LAYOUT.POS_OFF` (R40). -/
def posOff (s : State) : Nat := (s.cfg.layout.extractLsb' 0 8).toNat

/-- `LAYOUT.VEL_OFF` (R40). -/
def velOff (s : State) : Nat := (s.cfg.layout.extractLsb' 8 8).toNat

/-- `LAYOUT.CUR_OFF` (R40). -/
def curOff (s : State) : Nat := (s.cfg.layout.extractLsb' 16 8).toNat

/-- `LAYOUT.TOUCH_OFF` (R40). -/
def touchOff (s : State) : Nat := (s.cfg.layout.extractLsb' 24 8).toNat

/-- `LAYOUT2.CUR_STRIDE` (R41). -/
def curStride (s : State) : Nat := (s.cfg.layout2.extractLsb' 0 8).toNat

/-- `LAYOUT2.TOUCH_COUNT` (R41). -/
def touchCount (s : State) : Nat := (s.cfg.layout2.extractLsb' 8 8).toNat

/-- `LAYOUT2.TOUCH_ORDER`: false is LSB-first, true is MSB-first (R41). -/
def touchOrder (s : State) : Bool := s.cfg.layout2.getLsbD 16

/-- `LAYOUT2.DEC_NEG5` (R41). -/
def decNeg5 (s : State) : Bool := s.cfg.layout2.getLsbD 17

/-- `LAYOUT2.CUR_SIGNED` (R41). -/
def curSigned (s : State) : Bool := s.cfg.layout2.getLsbD 18

/-- The size of a buffer: `TX_MAX` or `RX_MAX` (R89). -/
def bufSize (b : Buf) : Nat :=
  match b with
  | .tx => Config.txMax
  | .rx => Config.rxMax

/-- `touch_len(n)`: bytes that `n` touch values occupy (`43_decoder.md` R110). -/
def touchLen (n : Nat) : Nat := (3 * n + 1) / 2

/-- `need`: bytes a decode needs under the present layout (`43_decoder.md` R112). -/
def need (s : State) : Nat :=
  max (max (max (posOff s) (velOff s) + 22) (curOff s + 5 * curStride s + 1))
    (if touchCount s = 0 then 0 else touchOff s + touchLen (touchCount s))

/-- May the generator that `CTRL.GEN` selects run? Not the reserved one, and not POINTER with
`PTR_SENS` = 0 (R116, R119, R123). -/
def generatorReady (s : State) : Bool :=
  match ctrlGen s with
  | .reserved => false
  | .pointer => s.cfg.ptrSens != 0
  | .direct | .wave => true

/-- May a frame of `L` bytes be sealed in `TXBUF`? (`42_encoder.md` R108) -/
def rawLengthOk (L : Nat) : Bool := 5 ≤ L && L ≤ Config.txMax

/-- The configuration checks of START and CYCLE1 (`45_loop.md` R139): true when all of them pass. That
in RAW mode neither generator 3 nor POINTER with `PTR_SENS` = 0 is a failure, as R139 has it and against
the general words of R22, of items 16 and 21 of `93_implementation_defined.md` and of D29, is the model's
choice (DESIGN CHOICE, unsafe, entry 23). -/
def configOk (s : State) : Bool :=
  (match ctrlMode s with
    | .raw => rawLengthOk s.txLen.toNat
    | .pos | .voltOl | .voltCl => generatorReady s) &&
  touchCount s ≤ Config.touchMax && need s ≤ Config.rxMax

/-- May a CYCLE1 cycle begin with the present `RX_LEN`? Not in VOLT_CL, whose stage CONTROL uses it
(R132), when it is above `RX_MAX` (R38, item 21 of `93_implementation_defined.md`). That this check is
CYCLE1's in VOLT_CL mode alone is the model's choice (DESIGN CHOICE, unsafe, entry 22). -/
def receiveLengthOk (s : State) : Bool :=
  match ctrlMode s with
  | .voltCl => s.rxLen.toNat ≤ Config.rxMax
  | .pos | .voltOl | .raw => true

/-- The states that allow the standalone data commands: all but RUNNING (`30_encoding.md` R77). -/
def allowsData (s : State) : Bool := s.status.state != .running

/-- STOP is allowed in INITIALIZED and RUNNING (R77). -/
def allowsStop (s : State) : Bool := s.status.state == .initialized || s.status.state == .running

end Sys2Proof.Machine
end

