-- ==== Sys2Proof/Machine/Ops.lean ====
section
/-! DEFINITION. The shared operations: frame buffers in canonical form, the completion of a command
(`30_encoding.md` R76), a command error (`60_exceptions.md` R146), fatal-error entry (R147) and its
counterpart the reset clear (`45_loop.md` R142), and transport requests (R152). -/

namespace Sys2Proof.Machine

/-! ### Frame buffers -/

/-- Byte `k` of a buffer. -/
def memRead (m : Memory) (k : Nat) : Byte :=
  match m with
  | [] => blankByte
  | (a, b) :: rest => if a = k then b else memRead rest k

/-- `m` with `b` in front at index `k`, unless `b` is what an unlisted byte reads. -/
def memCons (k : Nat) (b : Byte) (m : Memory) : Memory :=
  if b = blankByte then m else (k, b) :: m

/-- Writes byte `k` of a buffer, keeping the canonical form. -/
def memWrite (m : Memory) (k : Nat) (b : Byte) : Memory :=
  match m with
  | [] => memCons k b []
  | (a, c) :: rest =>
    if k < a then memCons k b ((a, c) :: rest)
    else if k = a then memCons k b rest
    else (a, c) :: memWrite rest k b

/-- Writes the bytes `bs` at indices `k`, `k+1`, … -/
def memWriteBytes (m : Memory) (k : Nat) (bs : List Byte) : Memory :=
  match bs with
  | [] => m
  | b :: rest => memWriteBytes (memWrite m k b) (k + 1) rest

/-- The buffer that holds the bytes `bs` at indices `k`, `k+1`, … and 0 elsewhere. -/
def memOfBytes (k : Nat) (bs : List Byte) : Memory :=
  match bs with
  | [] => []
  | b :: rest => memCons k b (memOfBytes (k + 1) rest)

/-- The bytes at indices `k .. k+n-1` as a list, read by `f`. -/
def bytesFrom (f : Nat → Byte) (k : Nat) (n : Nat) : List Byte :=
  match n with
  | 0 => []
  | n + 1 => f k :: bytesFrom f (k + 1) n

/-- The canonical form from index `k` on: indices rise strictly, start at `k` or above, stay below
`size`, and no listed byte reads as an unlisted one. -/
def memWfFrom (size k : Nat) (m : Memory) : Bool :=
  match m with
  | [] => true
  | (a, b) :: rest => k ≤ a && a < size && b != blankByte && memWfFrom size (a + 1) rest

/-- The canonical form of a buffer of `size` bytes. -/
def Memory.wf (size : Nat) (m : Memory) : Bool := memWfFrom size 0 m

/-- `TX[k]` (`00_scope.md` R14); an index beyond the buffer gives a free byte (entry 11). -/
def txByte (s : State) (k : Nat) : Byte :=
  if k < Config.txMax then memRead s.txbuf k else Config.absentByte s.env.draws k

/-- `RX[k]` (R14); an index beyond the buffer gives a free byte (entry 11). -/
def rxByte (s : State) (k : Nat) : Byte :=
  if k < Config.rxMax then memRead s.rxbuf k else Config.absentByte s.env.draws k

/-- The buffer a format B command reads (`40_checksum.md` R89). -/
def bufByte (s : State) (b : Buf) (k : Nat) : Byte :=
  match b with
  | .tx => txByte s k
  | .rx => rxByte s k

/-- `LE16(B, k)` (R14). -/
def le16 (B : Nat → Byte) (k : Nat) : BitVec 16 := B (k + 1) ++ B k

/-- Clears `RXBUF`, `RX_LEN` and `STATUS.VALID` (INIT, R138; START, R140). -/
def clearReceive (s : State) : State := setValid false { s with rxbuf := [], rxLen := 0 }

/-! ### Completion and command errors -/

/-- Completion of a command with `code` (`30_encoding.md` R76). -/
def complete (code : ErrCode) (s : State) : State :=
  { s with
    pending := none
    status := { s.status with busy := false }
    err := { s.err with cmdErr := code }
    ip := s.ip ||| ipCmdDone }

/-- `raise CmdError(code)`: the command ends with `code` and no other effect (`60_exceptions.md`
R146). -/
def cmdError (code : ErrCode) (s : State) : State := complete code s

/-- One check of a command: goes on with `k` when it holds, else ends the command with `code`
(`30_encoding.md` R75). -/
def require (ok : Bool) (code : ErrCode) (s : State) (k : Outcome) : Outcome :=
  if ok then k else .next (cmdError code s)

/-- The command finishes successfully in the state `s` (R76). -/
def done (s : State) : Outcome := .next (complete .none s)

/-! ### Fatal-error entry and the way back -/

/-- Has the command in `PENDING` started: issued its transport request, or set `ONE_SHOT`? While
RUNNING a request is the loop's own, not a command's (`45_loop.md` R126, entry 9). -/
def commandStarted (s : State) : Bool :=
  s.oneShot ||
    (match s.xfer with
      | .opening => true
      | .closing => s.status.state != .running
      | .none | .exchange _ => false)

/-- `raise Fatal(code, stage)` (`60_exceptions.md` R147): the block's one exception entry. It records
the code and the stage, stops the loop, drops the link and the request, and completes a started
command with the code. -/
def fatal (code : ErrCode) (stage : Stage) (s : State) : State :=
  let t : State :=
    { s with
      xfer := .none
      status := { s.status with
        state := .stopped, link := false, stopReq := false, stage := .boundary }
      oneShot := false
      err := { s.err with fatalCode := code, fatalStage := stage }
      ip := s.ip ||| ipFatal }
  if commandStarted s then complete code t else t

/-- The reset clear (`45_loop.md` R142): the way back from a fatal error (`60_exceptions.md` R148).
It keeps the host-written registers, the pending command and the surroundings. -/
def resetClear (s : State) : State :=
  { State.resetIn s.env with cfg := s.cfg, pending := s.pending }

/-! ### Transport requests -/

/-- Makes the request `x` of the Transport (`60_exceptions.md` R152). -/
def request (x : Xfer) (s : State) : State := { s with xfer := x }

/-- Requests CLOSE, and remembers what it leads to (`45_loop.md` R128, R141, R143). -/
def requestClose (a : AfterClose) (s : State) : State :=
  { s with afterClose := a, xfer := .closing }

end Sys2Proof.Machine
end

