-- ==== Sys2Proof/Machine/Bus.lean ====
section
/-! DEFINITION. The host bus: the register map (`10_state.md` R20), reads and writes (`20_memory.md`
R55 to R61), command issue (`30_encoding.md` R74). -/

namespace Sys2Proof.Machine

/-- The registers of the map (`10_state.md` R20). -/
inductive Reg where
  | id | ctrl | status | cmd | result | err | ie | ip | ckerrCnt | cycleCnt | seq | elapsed | phase
  | period | kGain | phaseRate | sinAmp | sinOff | ptrSens | ptrIn | cvtIn | cvtOut | txLen | rxLen
  | proto | layout | layout2
  | setpoint (ch : Channel)
  | tgt (ch : Channel)
  | cmdv (ch : Channel)
  | fbPos (ch : Channel)
  | fbVel (ch : Channel)
  | fbCur (ch : Channel)
  | rawPV (ch : Channel)
  | rawC (ch : Channel)
  | touch (i : Fin 64)
  | txWord (w : Fin 16)
  | rxWord (w : Fin 32)
deriving DecidableEq, Repr

/-- Entry `n` of a window of `k` registers, if there is one. -/
def windowAt (k : Nat) (r : Fin k → Reg) (n : Nat) : Option Reg :=
  if h : n < k then some (r ⟨n, h⟩) else none

/-- The register at word index `w`, that is at byte offset `4*w` (R20). -/
def regAtWord (w : Nat) : Option Reg :=
  if w < 0x20 then
    match w with
    | 0x00 => some .id
    | 0x01 => some .ctrl
    | 0x02 => some .status
    | 0x03 => some .cmd
    | 0x04 => some .result
    | 0x05 => some .err
    | 0x06 => some .ie
    | 0x07 => some .ip
    | 0x08 => some .ckerrCnt
    | 0x09 => some .cycleCnt
    | 0x0A => some .seq
    | 0x0B => some .elapsed
    | 0x0C => some .phase
    | 0x0D => some .period
    | 0x0E => some .kGain
    | 0x0F => some .phaseRate
    | 0x10 => some .sinAmp
    | 0x11 => some .sinOff
    | 0x12 => some .ptrSens
    | 0x13 => some .ptrIn
    | 0x14 => some .cvtIn
    | 0x15 => some .cvtOut
    | 0x16 => some .txLen
    | 0x17 => some .rxLen
    | 0x18 => some .proto
    | 0x19 => some .layout
    | 0x1A => some .layout2
    | _ => none
  else if w < 0x28 then windowAt 6 .setpoint (w - 0x20)
  else if w < 0x30 then windowAt 6 .tgt (w - 0x28)
  else if w < 0x38 then windowAt 6 .cmdv (w - 0x30)
  else if w < 0x40 then windowAt 6 .fbPos (w - 0x38)
  else if w < 0x48 then windowAt 6 .fbVel (w - 0x40)
  else if w < 0x50 then windowAt 6 .fbCur (w - 0x48)
  else if w < 0x58 then windowAt 6 .rawPV (w - 0x50)
  else if w < 0x60 then windowAt 6 .rawC (w - 0x58)
  else if w < 0x80 then none
  else if w < 0x100 then windowAt 64 .touch (w - 0x80)
  else if w < 0x140 then windowAt 16 .txWord (w - 0x100)
  else windowAt 32 .rxWord (w - 0x140)

/-- The register an access reaches: 32 bits wide, at an aligned mapped offset (R55, R56, entry 21). -/
def regAt (addr width : Nat) : Option Reg :=
  if width = 32 ∧ addr % 4 = 0 then regAtWord (addr / 4) else none

/-- `STATE` as bits (`10_state.md` R23). -/
def LoopState.bits (x : LoopState) : BitVec 2 :=
  match x with
  | .idle => 0
  | .initialized => 1
  | .running => 2
  | .stopped => 3

/-- `STAGE` as bits (R19). -/
def Stage.bits (g : Stage) : BitVec 3 :=
  match g with
  | .boundary => 0
  | .sample => 1
  | .generate => 2
  | .control => 3
  | .encode => 4
  | .exchange => 5
  | .decode => 6
  | .pace => 7

/-- An error code as bits (`60_exceptions.md` R145). -/
def ErrCode.bits (c : ErrCode) : BitVec 4 :=
  match c with
  | .none => 0
  | .illegal => 1
  | .badOperand => 2
  | .state => 3
  | .openFail => 4
  | .initFail => 5
  | .exchangeFail => 6
  | .closeFail => 7
  | .unpack => 8
  | .config => 9

/-- The word `STATUS` reads as (R23). -/
def statusWord (t : Status) : Word :=
  0#18 ++ BitVec.ofBool t.link ++ BitVec.ofBool t.late ++ BitVec.ofBool t.busErr ++
  BitVec.ofBool t.overrun ++ BitVec.ofBool t.collide ++ BitVec.ofBool t.range ++ t.stage.bits ++
  BitVec.ofBool t.stopReq ++ BitVec.ofBool t.valid ++ BitVec.ofBool t.busy ++ t.state.bits

/-- The word `ERR` reads as (R26). -/
def errWord (e : ErrReg) : Word :=
  0#17 ++ e.fatalStage.bits ++ e.fatalCode.bits ++ 0#4 ++ e.cmdErr.bits

/-- Word `w` of a buffer, byte `4w` in the low bits (R48, R61). -/
def bufWord (m : Memory) (w : Nat) : Word :=
  memRead m (4 * w + 3) ++ memRead m (4 * w + 2) ++ memRead m (4 * w + 1) ++ memRead m (4 * w)

/-- The buffer with word `w` written (R48, R61). -/
def bufWriteWord (m : Memory) (w : Nat) (v : Word) : Memory :=
  memWriteBytes m (4 * w)
    [v.extractLsb' 0 8, v.extractLsb' 8 8, v.extractLsb' 16 8, v.extractLsb' 24 8]

/-- The value a register reads as, reserved bits 0 (R55). `ID` is the constant `ID_VALUE` (R21). -/
def readReg (s : State) (r : Reg) : Word :=
  match r with
  | .id => Config.idValue
  | .ctrl => s.cfg.ctrl.setWidth 32
  | .status => statusWord s.status
  | .cmd => s.cfg.cmd
  | .result => s.result
  | .err => errWord s.err
  | .ie => s.cfg.ie.setWidth 32
  | .ip => s.ip.setWidth 32
  | .ckerrCnt => s.ckerrCnt
  | .cycleCnt => s.cycleCnt
  | .seq => s.seq
  | .elapsed => s.elapsed
  | .phase => s.phase
  | .period => s.cfg.period
  | .kGain => s.cfg.kGain
  | .phaseRate => s.cfg.phaseRate
  | .sinAmp => s.cfg.sinAmp
  | .sinOff => s.cfg.sinOff
  | .ptrSens => s.cfg.ptrSens
  | .ptrIn => s.cfg.ptrIn
  | .cvtIn => s.cfg.cvtIn
  | .cvtOut => s.cvtOut
  | .txLen => s.txLen.setWidth 32
  | .rxLen => s.rxLen.setWidth 32
  | .proto => s.cfg.proto.setWidth 32
  | .layout => s.cfg.layout
  | .layout2 => s.cfg.layout2.setWidth 32
  | .setpoint ch => s.cfg.setpoint.get ch
  | .tgt ch => s.tgt.get ch
  | .cmdv ch => s.cmdv.get ch
  | .fbPos ch => s.fb.pos.get ch
  | .fbVel ch => s.fb.vel.get ch
  | .fbCur ch => s.fb.cur.get ch
  | .rawPV ch => s.fb.rawPV.get ch
  | .rawC ch => (s.fb.rawC.get ch).setWidth 32
  | .touch i => (s.fb.touch.get i).setWidth 32
  | .txWord w => bufWord s.txbuf w.val
  | .rxWord w => bufWord s.rxbuf w.val

/-- The access classes (`10_state.md` R20). -/
inductive Access where
  /-- writes are ignored without a flag -/
  | readOnly
  /-- writes pass the write gate of `20_memory.md` R57 -/
  | gated
  /-- writes are accepted at any time -/
  | live
deriving DecidableEq, Repr

/-- The access class of each register (R20, `20_memory.md` R57). `STATUS` and `IP` are W1C, which is
live; the bits of `STATUS` that are read-only ignore the write. -/
def regAccess (r : Reg) : Access :=
  match r with
  | .id | .result | .err | .ckerrCnt | .cycleCnt | .seq | .elapsed | .phase | .cvtOut => .readOnly
  | .tgt _ | .fbPos _ | .fbVel _ | .fbCur _ | .rawPV _ | .rawC _ | .touch _ => .readOnly
  | .status | .cmd | .ie | .ip | .ptrIn | .setpoint _ => .live
  | .ctrl | .period | .kGain | .phaseRate | .sinAmp | .sinOff | .ptrSens | .cvtIn | .txLen | .rxLen
  | .proto | .layout | .layout2 => .gated
  | .cmdv _ | .txWord _ | .rxWord _ => .gated

/-- The write gate: gated writes are accepted outside RUNNING and while not BUSY (`20_memory.md`
R57). -/
def gateOpen (s : State) : Bool := s.status.state != .running && !s.status.busy

/-- A write of `STATUS`: each W1C flag whose bit is 1 in `v` is cleared (R23). -/
def clearStatus (v : Word) (t : Status) : Status :=
  { t with
    range := t.range && !v.getLsbD 8
    collide := t.collide && !v.getLsbD 9
    overrun := t.overrun && !v.getLsbD 10
    busErr := t.busErr && !v.getLsbD 11
    late := t.late && !v.getLsbD 12 }

/-- Command issue: a write of `v` to `CMD` (`30_encoding.md` R74). -/
def issue (v : Word) (s : State) : State :=
  if s.status.busy then { s with status := { s.status with overrun := true } }
  else
    { s with
      cfg := { s.cfg with cmd := v }
      pending := some v
      status := { s.status with busy := true } }

/-- The effect of an accepted write of `v` to register `r`; bits that do not exist are ignored. -/
def storeReg (r : Reg) (v : Word) (s : State) : State :=
  match r with
  | .status => { s with status := clearStatus v s.status }
  | .ip => { s with ip := s.ip &&& ~~~(v.setWidth 5) }
  | .cmd => issue v s
  | .ctrl => { s with cfg := { s.cfg with ctrl := v.setWidth 4 } }
  | .ie => { s with cfg := { s.cfg with ie := v.setWidth 5 } }
  | .period => { s with cfg := { s.cfg with period := v } }
  | .kGain => { s with cfg := { s.cfg with kGain := v } }
  | .phaseRate => { s with cfg := { s.cfg with phaseRate := v } }
  | .sinAmp => { s with cfg := { s.cfg with sinAmp := v } }
  | .sinOff => { s with cfg := { s.cfg with sinOff := v } }
  | .ptrSens => { s with cfg := { s.cfg with ptrSens := v } }
  | .ptrIn => { s with cfg := { s.cfg with ptrIn := v } }
  | .cvtIn => { s with cfg := { s.cfg with cvtIn := v } }
  | .proto => { s with cfg := { s.cfg with proto := v.setWidth 24 } }
  | .layout => { s with cfg := { s.cfg with layout := v } }
  | .layout2 => { s with cfg := { s.cfg with layout2 := v.setWidth 19 } }
  | .setpoint ch => { s with cfg := { s.cfg with setpoint := s.cfg.setpoint.set ch v } }
  | .txLen => { s with txLen := v.setWidth 8 }
  | .rxLen => { s with rxLen := v.setWidth 8 }
  | .cmdv ch => { s with cmdv := s.cmdv.set ch v }
  | .txWord w => { s with txbuf := bufWriteWord s.txbuf w.val v }
  | .rxWord w => { s with rxbuf := bufWriteWord s.rxbuf w.val v }
  | .id | .result | .err | .ckerrCnt | .cycleCnt | .seq | .elapsed | .phase | .cvtOut | .tgt _
  | .fbPos _ | .fbVel _ | .fbCur _ | .rawPV _ | .rawC _ | .touch _ => s

/-- A host write of `v` to register `r`, through its access class and the write gate (R57). -/
def writeReg (r : Reg) (v : Word) (s : State) : State :=
  match regAccess r with
  | .readOnly => s
  | .live => storeReg r v s
  | .gated =>
    if gateOpen s then storeReg r v s
    else { s with status := { s.status with collide := true } }

/-- A bad access: `STATUS.BUSERR` is set and nothing else happens in the block (R56). -/
def busError (s : State) : State := { s with status := { s.status with busErr := true } }

/-- Hands the host the value `v` of a read. -/
def answerHost (v : Word) (s : State) : State := { s with env := { s.env with busOut := v } }

/-- One host bus access (R55 to R58). -/
def hostTurn (a : HostAccess) (s : State) : State :=
  match a with
  | .read addr width =>
    match regAt addr width with
    | some r => answerHost (readReg s r) s
    | none => answerHost 0 (busError s)
  | .write addr width v =>
    match regAt addr width with
    | some r => writeReg r v s
    | none => busError s

end Sys2Proof.Machine
end

