-- ==== Sys2Proof/Machine/Checksum.lean ====
section
/-! DEFINITION. The checksum engine (`40_checksum.md`): the two checksum variants, the frame validator,
and the commands CKSUMP, CKSUMF and VALID. -/

namespace Sys2Proof.Machine

/-- The signed 8-bit running sum of `n` bytes from index `lo` on, started at `s` (R83). -/
def sum8From (B : Nat → Byte) (lo : Nat) (n : Nat) (s : Int) : Int :=
  match n with
  | 0 => s
  | n + 1 => sum8From B (lo + 1) n (sext8 (s + ((B lo).toNat : Int)))

/-- `sum8(B, lo, hi)` over the half-open range `[lo, hi)`; 0 when it is empty (R83). -/
def sum8 (B : Nat → Byte) (lo hi : Nat) : Int := sum8From B lo (hi - lo) 0

/-- Variant P, "payload-only" (R84). -/
def cksP (B : Nat → Byte) (length : Nat) : Byte := wrap8 (0x100 - sum8 B 1 (length - 2))

/-- Variant F, "whole-frame" (R85). -/
def cksF (B : Nat → Byte) (length : Nat) : Byte := wrap8 (0x100 - sum8 B 0 (length - 1))

/-- `B[0] + ... + B[n-1]` (R86). -/
def byteSum (B : Nat → Byte) (n : Nat) : Nat :=
  match n with
  | 0 => 0
  | n + 1 => byteSum B n + (B n).toNat

/-- `B[0] | ... | B[n-1]` (R86). -/
def byteOr (B : Nat → Byte) (n : Nat) : Byte :=
  match n with
  | 0 => 0
  | n + 1 => byteOr B n ||| B n

/-- `valid(B, length)`: the sum is 0 mod 256 and some byte is nonzero (R86). -/
def frameValid (B : Nat → Byte) (length : Nat) : Bool :=
  byteSum B length % 256 == 0 && byteOr B length != 0

/-- `valid(RX, RX_LEN)` (R115, R132, R135). -/
def receiveValid (s : State) : Bool := frameValid (rxByte s) s.rxLen.toNat

/-- CKSUMP (R89). -/
def execCksump (b : Buf) (len : Nat) (s : State) : Outcome :=
  require (allowsData s) .state s <|
  require (len ≤ bufSize b) .badOperand s <|
  done { s with result := (cksP (bufByte s b) len).setWidth 32 }

/-- CKSUMF (R90). -/
def execCksumf (b : Buf) (len : Nat) (s : State) : Outcome :=
  require (allowsData s) .state s <|
  require (len ≤ bufSize b) .badOperand s <|
  done { s with result := (cksF (bufByte s b) len).setWidth 32 }

/-- VALID (R91). -/
def execValid (b : Buf) (len : Nat) (s : State) : Outcome :=
  require (allowsData s) .state s <|
  require (len ≤ bufSize b) .badOperand s <|
  let v := frameValid (bufByte s b) len
  done { setValid v s with result := if v then 1 else 0 }

end Sys2Proof.Machine
end

