-- ==== Sys2Proof/Machine/Converter.lean ====
section
/-! DEFINITION. The unit converter's commands (`41_converter.md` R99 to R102); the conversions
themselves are in `Arith.lean`. -/

namespace Sys2Proof.Machine

/-- `CVT_IN[15:0]` read as a signed 16-bit raw value (R100, R101). -/
def cvtRaw (s : State) : Int := (s.cfg.cvtIn.extractLsb' 0 16).toInt

/-- CVTD2R, degrees to raw (R99). -/
def execCvtd2r (s : State) : Outcome :=
  require (allowsData s) .state s <|
  let q := sext32 s.cfg.cvtIn
  done (rangeEvent (d2rRange q) { s with cvtOut := wrap32 (d2r q) })

/-- CVTR2D, raw to degrees (R100). -/
def execCvtr2d (s : State) : Outcome :=
  require (allowsData s) .state s <|
  done { s with cvtOut := wrap32 (r2d (cvtRaw s)) }

/-- CVTV2E, raw velocity to engineering units (R101). -/
def execCvtv2e (ch : Nat) (s : State) : Outcome :=
  require (allowsData s) .state s <|
  require (ch ≤ 5) .badOperand s <|
  done { s with cvtOut := wrap32 (v2e (cvtRaw s) ch) }

/-- CVTC2P, raw current to physical current (R102). -/
def execCvtc2p (s : State) : Outcome :=
  require (allowsData s) .state s <|
  done { s with cvtOut := wrap32 (c2p (curSigned s) (s.cfg.cvtIn.extractLsb' 0 8)) }

end Sys2Proof.Machine
end

