-- ==== Sys2Proof/Machine/Decoder.lean ====
section
/-! DEFINITION. The frame decoder (`43_decoder.md`): touch unpacking (and packing, its inverse in
tests), the decode procedure, and the command DECODE. -/

namespace Sys2Proof.Machine

/-- `unpack12(B, base, i)` in the nibble order `msb` (false LSB-first, true MSB-first) (R109). -/
def unpack12 (msb : Bool) (B : Nat → Byte) (base i : Nat) : BitVec 12 :=
  let k := base + 3 * i / 2
  let b0 : BitVec 12 := (B k).setWidth 12
  let b1 : BitVec 12 := (B (k + 1)).setWidth 12
  match msb, i % 2 == 0 with
  | false, true => b0 ||| ((b1 &&& 0x00F) <<< 8)
  | false, false => (b0 >>> 4) ||| (b1 <<< 4)
  | true, true => (b0 <<< 4) ||| (b1 >>> 4)
  | true, false => ((b0 &&& 0x00F) <<< 8) ||| b1

/-- The two fragments that value `v`, the `i`-th, ORs into the bytes `k` and `k+1`, `k = (3*i)//2`, when
it is packed in the order `msb` (R111). -/
def packFragments (msb : Bool) (i : Nat) (v : BitVec 12) : Byte × Byte :=
  match msb, i % 2 == 0 with
  | false, true => (v.extractLsb' 0 8, (v.extractLsb' 8 4).setWidth 8)
  | false, false => ((v.extractLsb' 0 4).setWidth 8 <<< 4, v.extractLsb' 4 8)
  | true, true => (v.extractLsb' 4 8, (v.extractLsb' 0 4).setWidth 8 <<< 4)
  | true, false => ((v.extractLsb' 8 4).setWidth 8, v.extractLsb' 0 8)

/-- ORs the values `vals`, the first of them being value `i`, into the bytes `B` (R111). -/
def packFrom (msb : Bool) (vals : List (BitVec 12)) (i : Nat) (B : Nat → Byte) : Nat → Byte :=
  match vals with
  | [] => B
  | v :: rest =>
    let k := 3 * i / 2
    packFrom msb rest (i + 1) fun j =>
      if j = k then B j ||| (packFragments msb i v).1
      else if j = k + 1 then B j ||| (packFragments msb i v).2
      else B j

/-- `pack12(vals)`, all bytes starting at 0 (R111). No command performs it. -/
def pack12 (msb : Bool) (vals : List (BitVec 12)) : Nat → Byte := packFrom msb vals 0 fun _ => 0

/-- The raw position of channel `ch` (R113). -/
def rawPosition (s : State) (ch : Channel) : BitVec 16 := le16 (rxByte s) (posOff s + 4 * ch.val)

/-- The raw velocity of channel `ch` (R113). -/
def rawVelocity (s : State) (ch : Channel) : BitVec 16 := le16 (rxByte s) (velOff s + 4 * ch.val)

/-- The raw current byte of channel `ch` (R113). -/
def rawCurrent (s : State) (ch : Channel) : Byte := rxByte s (curOff s + curStride s * ch.val)

/-- The sign that channel `ch`'s position and velocity take: `LAYOUT2.DEC_NEG5` negates channel 5
(R113, R114). -/
def decodeSign (s : State) (ch : Channel) (v : Int) : Int :=
  if ch = 5 ∧ decNeg5 s = true then -v else v

/-- The feedback that a decode of `RXBUF` publishes (R113). -/
def decodedFeedback (s : State) : Feedback :=
  { pos := Six.ofFn fun ch => wrap32 (decodeSign s ch (r2d (rawPosition s ch).toInt))
    vel := Six.ofFn fun ch => wrap32 (decodeSign s ch (v2e (rawVelocity s ch).toInt ch.val))
    cur := Six.ofFn fun ch => wrap32 (c2p (curSigned s) (rawCurrent s ch))
    rawPV := Six.ofFn fun ch => rawVelocity s ch ++ rawPosition s ch
    rawC := Six.ofFn fun ch => rawCurrent s ch
    touch := Vector.ofFn fun i =>
      if i.val < touchCount s then unpack12 (touchOrder s) (rxByte s) (touchOff s) i.val else 0 }

/-- `decode()`: publishes the feedback and counts the snapshot (R113, `20_memory.md` R64). -/
def decodeFrame (s : State) : State := { s with fb := decodedFeedback s, seq := s.seq + 1 }

/-- DECODE, decode the frame in `RXBUF` whether or not it is valid (R115). -/
def execDecode (s : State) : Outcome :=
  require (allowsData s) .state s <|
  require (s.rxLen.toNat ≤ Config.rxMax && touchCount s ≤ Config.touchMax) .badOperand s <|
  require (need s ≤ s.rxLen.toNat) .unpack s <|
  let v := receiveValid s
  done { setValid v (decodeFrame s) with result := if v then 1 else 0 }

end Sys2Proof.Machine
end

