-- ==== Sys2Proof/Machine/Encoder.lean ====
section
/-! DEFINITION. The frame encoder (`42_encoder.md`): building motion frames, sealing host-built frames,
and the commands ENCPOS, ENCVOLT and ENCRAW. -/

namespace Sys2Proof.Machine

/-- A 16-bit value on the wire, low byte first (`20_memory.md` R59). -/
def wire16 (r : BitVec 16) : List Byte := [r.extractLsb' 0 8, r.extractLsb' 8 8]

/-- The payload checksum at `L-2`, then the frame checksum, which covers it, at `L-1` (R103, R108). -/
def sealFrame (m : Memory) (L : Nat) : Memory :=
  let p := memWrite m (L - 2) (cksP (memRead m) L)
  memWrite p (L - 1) (cksF (memRead p) L)

/-- `TX[L-2] + 256*TX[L-1]`: what the encode commands leave in `RESULT` (`10_state.md` R25). -/
def checkBytes (m : Memory) (L : Nat) : Word :=
  (memRead m (L - 1) ++ memRead m (L - 2)).setWidth 32

/-- The raw value of a channel as sent: `wrap_16(conv(CMDV[ch]))` (R103). -/
def motionRaw (conv : Int → Int) (s : State) (ch : Channel) : BitVec 16 :=
  wrap16 (conv (sext32 (s.cmdv.get ch)))

/-- The 12 payload bytes of a motion frame, channels in order (`30_encoding.md` R81). -/
def motionPayload (conv : Int → Int) (s : State) : List Byte :=
  wire16 (motionRaw conv s 0) ++ wire16 (motionRaw conv s 1) ++ wire16 (motionRaw conv s 2) ++
  wire16 (motionRaw conv s 3) ++ wire16 (motionRaw conv s 4) ++ wire16 (motionRaw conv s 5)

/-- The header and payload of a motion frame written to `TXBUF`, not yet sealed (R103). -/
def motionBody (mode : Byte) (conv : Int → Int) (s : State) : Memory :=
  memWriteBytes s.txbuf 0 ([0x11, protoAddr s, mode] ++ motionPayload conv s)

/-- `build_motion(mode_byte, conv)` without the write of `RESULT`, which only the commands make (R103,
`45_loop.md` R133). -/
def buildMotion (mode : Byte) (conv : Int → Int) (range : Int → Bool) (s : State) : State :=
  rangeEvent (Six.anyCh fun ch => range (sext32 (s.cmdv.get ch)))
    { s with txbuf := sealFrame (motionBody mode conv s) 17, txLen := 17 }

/-- The position frame: `build_motion(PROTO.MODE_POS, d2r)` (R106). -/
def buildPosition (s : State) : State := buildMotion (protoModePos s) d2r d2rRange s

/-- The voltage frame: `build_motion(PROTO.MODE_VOLT, v2raw)` (R107). -/
def buildVoltage (s : State) : State := buildMotion (protoModeVolt s) v2raw v2rawRange s

/-- The seal of a host-built frame of `TX_LEN` bytes: byte 0 is the length, then the two checksums
(R108, without `RESULT`). -/
def sealRaw (s : State) : State :=
  { s with txbuf := sealFrame (memWrite s.txbuf 0 s.txLen) s.txLen.toNat }

/-- Writes `RESULT` with the check bytes of the frame just built (R103, R108). -/
def withCheckResult (s : State) : State :=
  { s with result := checkBytes s.txbuf s.txLen.toNat }

/-- ENCPOS, encode a position frame (R106). -/
def execEncpos (s : State) : Outcome :=
  require (allowsData s) .state s <| done (withCheckResult (buildPosition s))

/-- ENCVOLT, encode a voltage frame (R107). -/
def execEncvolt (s : State) : Outcome :=
  require (allowsData s) .state s <| done (withCheckResult (buildVoltage s))

/-- ENCRAW, seal a host-built frame (R108). -/
def execEncraw (s : State) : Outcome :=
  require (allowsData s) .state s <|
  require (rawLengthOk s.txLen.toNat) .badOperand s <|
  done (withCheckResult (sealRaw s))

end Sys2Proof.Machine
end

