-- ==== Sys2Proof/Machine/Generator.lean ====
section
/-! DEFINITION. The setpoint generators and the control law (`44_generator_control.md`), and the
commands GEN and CTLAW. -/

namespace Sys2Proof.Machine

/-- Does `sat32` change `v`? Then the step performs a range event (R117, R119, R121). -/
def clips32 (v : Int) : Bool := sat32 v != v

/-- The wave's angle on channel `ch`: `wrap_32(PHASE + ch * CH_SHIFT)` (R117). -/
def waveAngle (s : State) (ch : Channel) : Word :=
  s.phase + BitVec.ofNat 32 (ch.val * Config.chShift)

/-- The wave's exact target on channel `ch`, channel 5 negated (R117). -/
def waveTarget (s : State) (ch : Channel) : Int :=
  let v := rhaz (sext32 s.cfg.sinAmp * sinq (waveAngle s ch)) 65536 + sext32 s.cfg.sinOff
  if ch = 5 then -v else v

/-- The pointer's exact quotient `p / k` in Q16.16, before saturation (R119). -/
def pointerQuotient (s : State) : Int := rhaz (sext32 s.cfg.ptrIn * 65536) (sext32 s.cfg.ptrSens)

/-- The pointer's target on channel `ch` before its own `sat32`: the saturated quotient, negated on
channel 5 (R119). -/
def pointerTarget (s : State) (ch : Channel) : Int :=
  if ch = 5 then -sat32 (pointerQuotient s) else sat32 (pointerQuotient s)

/-- `gen()`: the target vector of the selected generator (R116). The reserved selection never reaches
it: its callers check `generatorReady` first. -/
def gen (s : State) : State :=
  match ctrlGen s with
  | .direct => { s with tgt := s.cfg.setpoint }
  | .wave =>
    rangeEvent (Six.anyCh fun ch => clips32 (waveTarget s ch))
      { s with tgt := Six.ofFn fun ch => wrap32 (sat32 (waveTarget s ch)) }
  | .pointer =>
    rangeEvent (clips32 (pointerQuotient s) || Six.anyCh fun ch => clips32 (pointerTarget s ch))
      { s with tgt := Six.ofFn fun ch => wrap32 (sat32 (pointerTarget s ch)) }
  | .reserved => s

/-- The control law's exact command on channel `ch`: `rhaz(K*e, 65536) - FB_VEL` (R121). -/
def lawCommand (s : State) (ch : Channel) : Int :=
  rhaz (sext32 s.cfg.kGain * (sext32 (s.tgt.get ch) - sext32 (s.fb.pos.get ch))) 65536 -
    sext32 (s.fb.vel.get ch)

/-- `ctlaw()`: the proportional-minus-velocity law on every channel (R121). -/
def ctlaw (s : State) : State :=
  rangeEvent (Six.anyCh fun ch => clips32 (lawCommand s ch))
    { s with cmdv := Six.ofFn fun ch => wrap32 (sat32 (lawCommand s ch)) }

/-- GEN, compute the target vector once (R123). -/
def execGen (s : State) : Outcome :=
  require (allowsData s) .state s <|
  require (generatorReady s) .badOperand s <|
  done (gen s)

/-- CTLAW, apply the control law once (R124). -/
def execCtlaw (s : State) : Outcome :=
  require (allowsData s) .state s <| done (ctlaw s)

end Sys2Proof.Machine
end

