-- ==== Sys2Proof/Machine/Lifecycle.lean ====
section
/-! DEFINITION. The lifecycle commands (`45_loop.md` R137 to R144). Each definition is the command's
first step; what a Transport answer or a later stage adds is in `Transport.lean` and `Loop.lean`. -/

namespace Sys2Proof.Machine

/-- NOP, allowed in every state (R137). -/
def execNop (s : State) : Outcome := done s

/-- INIT: requests OPEN; `answerOpen` finishes it (R138). -/
def execInit (s : State) : Outcome :=
  require (s.status.state == .idle) .state s <| .next (request .opening s)

/-- START, enter RUNNING (R140). -/
def execStart (s : State) : Outcome :=
  require (s.status.state == .initialized) .state s <|
  require (configOk s) .config s <|
  let r := clearReceive s
  done { r with
    t0 := s.env.now
    cycleCnt := 0
    status := { r.status with stopReq := false, stage := .boundary, state := .running } }

/-- STOP: in RUNNING it asks the loop to stop at the next boundary; in INITIALIZED it requests CLOSE,
and `answerClose` finishes it (R141). -/
def execStop (s : State) : Outcome :=
  require (allowsStop s) .state s <|
  if s.status.state = .running then
    done { s with status := { s.status with stopReq := true } }
  else .next (requestClose .stopped s)

/-- RESET: in INITIALIZED it requests CLOSE, and `answerClose` finishes it; in IDLE and STOPPED it
performs the reset clear (R143). -/
def execReset (s : State) : Outcome :=
  require (allowsData s) .state s <|
  if s.status.state = .initialized then .next (requestClose .idle s)
  else done (resetClear s)

/-- CYCLE1: starts one cycle at stage SAMPLE; `endCycle1` finishes it (R144; the check of `RX_LEN` by R38
and entry 22). -/
def execCycle1 (s : State) : Outcome :=
  require (s.status.state == .initialized) .state s <|
  require (configOk s && receiveLengthOk s) .config s <|
  .next (setStage .sample { s with oneShot := true })

end Sys2Proof.Machine
end

