-- ==== Sys2Proof/Machine/Dispatch.lean ====
section
/-! DEFINITION. Which meaning each command has: one arm per constructor of `Instr`. -/

namespace Sys2Proof.Machine

-- The checks of R75 from the state check on, and the execution of the command; decoding is before it.
def exec (i : Instr) (s : State) : Host.Outcome State Fault Refusal :=
  match i with
  | .nop => Sys2Proof.Machine.execNop s
  | .cksump b len => Sys2Proof.Machine.execCksump b len s
  | .cksumf b len => Sys2Proof.Machine.execCksumf b len s
  | .valid b len => Sys2Proof.Machine.execValid b len s
  | .encpos => Sys2Proof.Machine.execEncpos s
  | .encvolt => Sys2Proof.Machine.execEncvolt s
  | .encraw => Sys2Proof.Machine.execEncraw s
  | .decode => Sys2Proof.Machine.execDecode s
  | .cvtd2r => Sys2Proof.Machine.execCvtd2r s
  | .cvtr2d => Sys2Proof.Machine.execCvtr2d s
  | .cvtv2e ch => Sys2Proof.Machine.execCvtv2e ch s
  | .cvtc2p => Sys2Proof.Machine.execCvtc2p s
  | .gen => Sys2Proof.Machine.execGen s
  | .ctlaw => Sys2Proof.Machine.execCtlaw s
  | .init => Sys2Proof.Machine.execInit s
  | .start => Sys2Proof.Machine.execStart s
  | .stop => Sys2Proof.Machine.execStop s
  | .reset => Sys2Proof.Machine.execReset s
  | .cycle1 => Sys2Proof.Machine.execCycle1 s

end Sys2Proof.Machine
end

