-- ==== Sys2Proof/Machine/Loop.lean ====
section
/-! DEFINITION. The stages of a loop cycle (`45_loop.md` R127 to R136, R144). -/

namespace Sys2Proof.Machine

/-- Stage 0, BOUNDARY: a stop request closes the link, else a new cycle begins (R128). -/
def stageBoundary (s : State) : State :=
  if s.status.stopReq then requestClose .stopped s else setStage .sample s

/-- Stage 1, SAMPLE: reads the Clock, and computes elapsed time and phase (R130). -/
def stageSample (s : State) : State :=
  let elapsed : Word := (s.env.now - s.t0).setWidth 32
  setStage .generate { s with
    ta := s.env.now
    elapsed := elapsed
    phase := s.cfg.phaseRate * elapsed }

/-- Stage 2, GENERATE: the generator runs in every mode but RAW (R131). -/
def stageGenerate (s : State) : Outcome :=
  if ctrlMode s = .raw then .next (setStage .control s)
  else if generatorReady s then .next (setStage .control (gen s))
  else .fault .generatorUnconfigured

/-- Stage 3, CONTROL: the command vector for this cycle (R132). -/
def stageControl (s : State) : State :=
  setStage .encode <|
    match ctrlMode s with
    | .pos | .voltOl => { s with cmdv := s.tgt }
    | .voltCl => if receiveValid s then ctlaw s else s
    | .raw => s

/-- Stage 4, ENCODE: the frame of the mode, without a write of `RESULT` (R133). -/
def stageEncode (s : State) : Outcome :=
  match ctrlMode s with
  | .pos => .next (setStage .exchange (buildPosition s))
  | .voltOl | .voltCl => .next (setStage .exchange (buildVoltage s))
  | .raw =>
    if rawLengthOk s.txLen.toNat then .next (setStage .exchange (sealRaw s))
    else .fault .rawLengthUnconfigured

/-- Stage 5, EXCHANGE, the request step: the Transport is handed a copy of `TX[0..TX_LEN-1]` (R134). -/
def stageExchange (s : State) : Outcome :=
  if s.txLen.toNat ≤ Config.txMax then
    .next (request (.exchange (bytesFrom (txByte s) 0 s.txLen.toNat)) s)
  else .fault .exchangeLengthUnconfigured

/-- The end of a CYCLE1 cycle, which completes the command (R144). -/
def endCycle1 (s : State) : State :=
  complete .none (setStage .boundary { s with
    cycleCnt := s.cycleCnt + 1
    ip := s.ip ||| ipCycleDone
    oneShot := false })

/-- What follows DECODE's work: the end of a CYCLE1 cycle, or the late check and PACE (R135). -/
def afterDecode (s : State) : State :=
  if s.oneShot then endCycle1 s else lateCheck (setStage .pace s)

/-- Stage 6, DECODE: an invalid frame is discarded and counted, a valid one that is too short is
fatal, any other is decoded (R135). -/
def stageDecode (s : State) : State :=
  let v := receiveValid s
  let t := setValid v s
  if v = false then
    afterDecode { t with ckerrCnt := s.ckerrCnt + 1, ip := s.ip ||| ipCkerr }
  else if s.rxLen.toNat < need s then fatal .unpack .decode t
  else afterDecode (decodeFrame t)

/-- Stage 7, PACE: waits for the deadline, then the cycle is complete (R136). -/
def stagePace (s : State) : State :=
  if deadline s ≤ s.env.now.toNat then
    setStage .boundary { s with cycleCnt := s.cycleCnt + 1, ip := s.ip ||| ipCycleDone }
  else s

/-- The stage that `STATUS.STAGE` names (R126, R127). -/
def stageStep (s : State) : Outcome :=
  match s.status.stage with
  | .boundary => .next (stageBoundary s)
  | .sample => .next (stageSample s)
  | .generate => stageGenerate s
  | .control => .next (stageControl s)
  | .encode => stageEncode s
  | .exchange => stageExchange s
  | .decode => .next (stageDecode s)
  | .pace => .next (stagePace s)

end Sys2Proof.Machine
end

