-- ==== Sys2Proof/Machine/Transport.lean ====
section
/-! DEFINITION. The Transport's answers (`60_exceptions.md` R152, R153) and what each does to the block
(`45_loop.md` R129, R134, R138). An answer that the request's row does not list is read as the nearest
one it lists (entry 4). -/

namespace Sys2Proof.Machine

/-- INIT succeeded: the link is open and initialised (R138). -/
def initDone (s : State) : State :=
  let r := clearReceive s
  complete .none { r with
    xfer := .none
    t0 := s.env.now
    status := { r.status with link := true, state := .initialized } }

/-- The answer to OPEN: OK, OPEN_FAIL or INIT_FAIL (R138). -/
def answerOpen (a : Answer) (s : State) : State :=
  match a with
  | .ok _ => initDone s
  | .fail => fatal .openFail .boundary s
  | .initFail => fatal .initFail .boundary s

/-- `OK(rx_bytes, rx_length)`: the bytes are stored, the rest of `RXBUF` is zeroed (R134). -/
def exchangeDone (rx : List Byte) (s : State) : State :=
  setStage .decode { s with
    rxbuf := memOfBytes 0 rx
    rxLen := BitVec.ofNat 8 rx.length
    xfer := .none }

/-- The answer to EXCHANGE: OK with at most `RX_MAX` bytes, or FAIL (R134, R153). -/
def answerExchange (a : Answer) (s : State) : State :=
  match a with
  | .ok rx => exchangeDone (rx.take Config.rxMax) s
  | .fail | .initFail => fatal .exchangeFail .exchange s

/-- CLOSE succeeded for a STOP or the boundary step; a STOP that made the request completes (R129,
entry 8). -/
def closeDone (s : State) : State :=
  let t : State := { s with
    xfer := .none
    status := { s.status with
      link := false, stopReq := false, stage := .boundary, state := .stopped } }
  if commandStarted s then complete .none t else t

/-- The answer to CLOSE: for a RESET the reset clear whatever the answer, else OK or FAIL (R129). -/
def answerClose (a : Answer) (s : State) : State :=
  match s.afterClose with
  | .idle => complete .none (resetClear s)
  | .stopped =>
    match a with
    | .ok _ => closeDone s
    | .fail | .initFail => fatal .closeFail .boundary s

/-- The Transport's step: it answers the request in flight, and does nothing else (R152). -/
def transportTurn (a : Answer) (s : State) : State :=
  match s.xfer with
  | .none => s
  | .opening => answerOpen a s
  | .exchange _ => answerExchange a s
  | .closing => answerClose a s

end Sys2Proof.Machine
end

