-- ==== Sys2Proof/Machine/Engine.lean ====
section
/-! DEFINITION. Who steps, and what a turn of each agent does (`00_scope.md` R8, `45_loop.md` R126,
`70_reset_and_hazards.md` R160). -/

namespace Sys2Proof.Machine

/-- The command step: the word in `PENDING` is decoded and executed, or is illegal (`30_encoding.md`
R73, R75). -/
def commandStep (w : Word) (s : State) : Outcome :=
  match decodeWord w with
  | .ok i => exec i s
  | .error _ => .next (cmdError .illegal s)

/-- May a loop stage run? (`45_loop.md` R126) -/
def loopActive (s : State) : Bool := s.status.state == .running || s.oneShot

/-- The loop's next stage, if the loop is active; else the Engine is idle (R126). -/
def loopTurn (s : State) : Outcome := if loopActive s then stageStep s else .next s

/-- The Engine's turn: none while a request waits for its answer; a pending command that has not
started comes before the next stage (R126). -/
def engineTurn (s : State) : Outcome :=
  match s.xfer with
  | .none =>
    match s.pending with
    | some w => if s.oneShot then loopTurn s else commandStep w s
    | none => loopTurn s
  | .opening | .exchange _ | .closing => .next s

/-- The Clock's turn: `now` becomes `t` and never decreases (R8). -/
def clockTurn (t : Ticks) (s : State) : State :=
  { s with env := { s.env with now := if s.env.now.toNat ≤ t.toNat then t else s.env.now } }

/-- The reset input (R160). Asserting it puts every piece of the block's state at its reset value and
abandons a request in flight; so does its release (entry 14). -/
def resetPinTurn (asserted : Bool) (s : State) : State :=
  if asserted || s.env.resetPin then State.resetIn { s.env with resetPin := asserted } else s

/-- A turn while the reset input is asserted: only the Clock and the reset input itself act; a host
read returns 0 (R160). -/
def turnInReset (t : Turn) (s : State) : State :=
  match t with
  | .engine => s
  | .transport _ => s
  | .host (.read _ _) => answerHost 0 s
  | .host (.write _ _ _) => s
  | .clock x => clockTurn x s
  | .resetPin a => resetPinTurn a s

/-- One turn of the agent it names (R8). -/
def takeTurn (t : Turn) (s : State) : Outcome :=
  if s.env.resetPin then .next (turnInReset t s)
  else
    match t with
    | .engine => engineTurn s
    | .host a => .next (hostTurn a s)
    | .transport a => .next (transportTurn a s)
    | .clock x => .next (clockTurn x s)
    | .resetPin a => .next (resetPinTurn a s)

/-- The turn the block takes by itself when nothing is scheduled: a request in flight is answered by a
free value, else it is the Engine's turn (entries 1, 4). -/
def ownTurn (s : State) : Turn :=
  match s.xfer with
  | .none => .engine
  | .opening | .exchange _ | .closing => .transport (Config.answer s.env.draws)

/-- `s` with the first scheduled turn taken off the agenda, and the draw counter advanced. -/
def scheduled (rest : List Turn) (s : State) : State :=
  { s with env := { s.env with agenda := rest, draws := s.env.draws + 1 } }

/-- `s` when nothing is scheduled: time passes by a free amount, and the draw counter advances
(entry 3). -/
def unscheduled (s : State) : State :=
  let t := clockTurn (Config.clock s.env.draws) s
  { t with env := { t.env with draws := s.env.draws + 1 } }

end Sys2Proof.Machine
end

