-- ==== Sys2Proof/Machine/Step.lean ====
section
/-! DEFINITION. One step of the machine: the next turn in the total order of all agents' steps
(`20_memory.md` R65). What a turn does is in `Engine.lean`. -/

namespace Sys2Proof.Machine

/-- One step: the first scheduled turn, or, when none is scheduled, the block's own (entry 1). -/
def step (s : State) : Host.Outcome State Fault Refusal :=
  match s.env.agenda with
  | t :: rest => takeTurn t (scheduled rest s)
  | [] => takeTurn (ownTurn s) (unscheduled s)

/-- `s` as it stands after the host has written the command word to `CMD` (`30_encoding.md` R74), with
the Engine's turn next, no request or CYCLE1 cycle in progress and the reset input released: the very
next step runs that command (entry 2). -/
def State.withFetchWord (s : State) (nbits w : Nat) : State :=
  let word : Word := BitVec.ofNat 32 (w % 2 ^ nbits)
  { s with
    cfg := { s.cfg with cmd := word }
    pending := some word
    status := { s.status with busy := true }
    xfer := .none
    oneShot := false
    env := { s.env with agenda := .engine :: s.env.agenda, resetPin := false } }

end Sys2Proof.Machine
end

