-- ==== Sys2Proof/Safety.lean ====
section
/-! DEFINITION. What claims are stated in: the invariant of the machine, a step that does not stop, and
the tables and situations that the statements name. -/

namespace Sys2Proof.Machine

/-- A cycle owns the buffers and vectors: the loop is RUNNING or a CYCLE1 cycle is in progress. -/
abbrev cycleActive (s : State) : Prop := s.status.state = .running ∨ s.oneShot = true

/-- The first `L` bytes of `B` are a valid frame: their sum is 0 mod 256 and some byte is nonzero
(`40_checksum.md` R86). -/
abbrev Validates (B : Nat → Byte) (L : Nat) : Prop :=
  (∑ k ∈ Finset.range L, (B k).toNat) % 256 = 0 ∧ ∃ k, k < L ∧ B k ≠ 0

/-- The first `L` bytes of `B` are a sealed command frame: header, two check bytes, the length in byte 0,
and both sums of `30_encoding.md` R80 at 0 mod 256, the payload's and the whole frame's. -/
abbrev Sealed (B : Nat → Byte) (L : Nat) : Prop :=
  5 ≤ L ∧ (B 0).toNat = L ∧ (∑ k ∈ Finset.Ico 1 (L - 1), (B k).toNat) % 256 = 0 ∧ Validates B L

/-- What holds at reset and after every step. A field names the rule that says it, or from which it
follows. -/
structure Inv (s : State) : Prop where
  /-- `TXBUF` is in canonical form: `TX_MAX` bytes (R48) -/
  txWf : Memory.wf Config.txMax s.txbuf = true
  /-- `RXBUF` is in canonical form: `RX_MAX` bytes (R49) -/
  rxWf : Memory.wf Config.rxMax s.rxbuf = true
  /-- `BUSY` is 1 exactly while a command is pending (R23, R74, R76) -/
  busy : s.status.busy = s.pending.isSome
  /-- `LINK` is 1 exactly in INITIALIZED and RUNNING (R125) -/
  link : s.status.link = true ↔ s.status.state = .initialized ∨ s.status.state = .running
  /-- a stop is requested only in RUNNING (R23, R141) -/
  stopReq : s.status.stopReq = true → s.status.state = .running
  /-- no cycle in progress: the sequencer stands at BOUNDARY (R19) -/
  stage : ¬ cycleActive s → s.status.stage = .boundary
  /-- a CYCLE1 cycle runs the stages 1 to 6 in INITIALIZED, with CYCLE1 pending (R126, R127, R144) -/
  oneShot : s.oneShot = true → s.status.state = .initialized ∧ s.pending = some 0x54 ∧
    s.status.stage ≠ .boundary ∧ s.status.stage ≠ .pace
  /-- OPEN is requested by INIT, in IDLE (R138) -/
  opening : s.xfer = .opening → s.status.state = .idle ∧ s.pending = some 0x50 ∧ s.oneShot = false
  /-- EXCHANGE is requested by stage EXCHANGE, with the bytes of `TXBUF` (R134) -/
  exchange : ∀ tx, s.xfer = .exchange tx → cycleActive s ∧ s.status.stage = .exchange ∧
    tx = bytesFrom (memRead s.txbuf) 0 s.txLen.toNat
  /-- CLOSE is requested by STOP and RESET in INITIALIZED and by stage BOUNDARY (R128, R141, R143) -/
  closing : s.xfer = .closing → s.oneShot = false ∧
    (s.status.state = .initialized ∧ s.pending = some 0x52 ∧ s.afterClose = .stopped ∨
      s.status.state = .initialized ∧ s.pending = some 0x53 ∧ s.afterClose = .idle ∨
      s.status.state = .running ∧ s.status.stage = .boundary ∧ s.status.stopReq = true ∧
        s.afterClose = .stopped)
  /-- the configuration checks hold throughout a cycle (R139) -/
  config : cycleActive s → configOk s = true
  /-- after ENCODE the frame in `TXBUF` fits and is sealed (R80, R88) -/
  frame : cycleActive s → s.status.stage = .exchange →
    s.txLen.toNat ≤ Config.txMax ∧ Sealed (memRead s.txbuf) s.txLen.toNat
  /-- `RX_LEN <= RX_MAX` wherever a stage reads it: in RUNNING, in a CYCLE1 cycle in VOLT_CL mode, and in
  any CYCLE1 cycle once its exchange is done (R38, R132, R135) -/
  rxLen : s.status.state = .running ∨
      s.oneShot = true ∧ (s.cfg.ctrl.extractLsb' 0 2 = 2#2 ∨ s.status.stage = .decode) →
    s.rxLen.toNat ≤ Config.rxMax
  /-- a fatal record stands only in STOPPED (R26, R148) -/
  fatal : s.err.fatalCode ≠ .none → s.status.state = .stopped
  /-- the Clock is not before the readings taken of it (R8, R51) -/
  clock : s.t0.toNat ≤ s.env.now.toNat ∧ s.ta.toNat ≤ s.env.now.toNat

/-- The step at `s` goes on: it neither faults nor is refused. -/
def Proceeds (s : State) : Prop := ∃ t, step s = .next t

/-- The table of states that allow each command (`30_encoding.md` R77). -/
def allowedIn (i : Instr) (st : LoopState) : Bool :=
  match i, st with
  | .nop, _ => true
  | .init, .idle => true
  | .init, _ => false
  | .start, .initialized => true
  | .start, _ => false
  | .stop, .initialized => true
  | .stop, .running => true
  | .stop, _ => false
  | .reset, .running => false
  | .reset, _ => true
  | .cycle1, .initialized => true
  | .cycle1, _ => false
  | .cksump _ _, .running | .cksumf _ _, .running | .valid _ _, .running | .encpos, .running
  | .encvolt, .running | .encraw, .running | .decode, .running | .cvtd2r, .running
  | .cvtr2d, .running | .cvtv2e _, .running | .cvtc2p, .running | .gen, .running
  | .ctlaw, .running => false
  | .cksump _ _, _ | .cksumf _ _, _ | .valid _ _, _ | .encpos, _ | .encvolt, _ | .encraw, _
  | .decode, _ | .cvtd2r, _ | .cvtr2d, _ | .cvtv2e _, _ | .cvtc2p, _ | .gen, _ | .ctlaw, _ => true

/-- The turn scheduled next is `t`, with `rest` after it, and the reset input is released. -/
def NextTurn (t : Turn) (rest : List Turn) (s : State) : Prop :=
  s.env.agenda = t :: rest ∧ s.env.resetPin = false

/-- The Engine's turn is next, and what it runs is the loop stage `g` (`45_loop.md` R126). -/
def AtStage (g : Stage) (rest : List Turn) (s : State) : Prop :=
  NextTurn .engine rest s ∧ s.xfer = .none ∧ (s.pending = none ∨ s.oneShot = true) ∧
    cycleActive s ∧ s.status.stage = g

/-- `B` starts with a motion frame: header, the raw values of the six channels low byte first, payload
checksum, and the frame checksum 0xEF (`30_encoding.md` R81, `42_encoder.md` R103, R105). -/
structure MotionFrame (addr mode : Byte) (raw : Channel → Int) (B : Nat → Byte) : Prop where
  /-- byte 0: the length 17 -/
  length : B 0 = 0x11
  /-- byte 1: the address -/
  addr : B 1 = addr
  /-- byte 2: the mode -/
  mode : B 2 = mode
  /-- bytes 3 to 14: the channels in order, low byte first -/
  payload : ∀ ch : Channel,
    B (3 + 2 * ch.val) = (BitVec.ofInt 16 (raw ch)).extractLsb' 0 8 ∧
    B (4 + 2 * ch.val) = (BitVec.ofInt 16 (raw ch)).extractLsb' 8 8
  /-- byte 15: bytes 1 to 15 sum to 0 mod 256 -/
  payloadCheck : (∑ k ∈ Finset.Ico 1 16, (B k).toNat) % 256 = 0
  /-- byte 16: the frame checksum -/
  frameCheck : B 16 = 0xEF

/-- The bytes a decode needs (`43_decoder.md` R112), from the fields of `LAYOUT` and `LAYOUT2`. -/
def bytesNeeded (s : State) : Nat :=
  let field (lo : Nat) : Nat := (s.cfg.layout.extractLsb' lo 8).toNat
  let stride : Nat := (s.cfg.layout2.extractLsb' 0 8).toNat
  let count : Nat := (s.cfg.layout2.extractLsb' 8 8).toNat
  max (max (max (field 0) (field 8) + 22) (field 16 + 5 * stride + 1))
    (if count = 0 then 0 else field 24 + (3 * count + 1) / 2)

/-- The configuration fails one of the checks of START and CYCLE1 (`45_loop.md` R139). -/
abbrev ConfigRefused (s : State) : Prop :=
  s.cfg.ctrl.extractLsb' 0 2 ≠ 3#2 ∧ s.cfg.ctrl.extractLsb' 2 2 = 3#2 ∨
  s.cfg.ctrl.extractLsb' 0 2 ≠ 3#2 ∧ s.cfg.ctrl.extractLsb' 2 2 = 2#2 ∧ s.cfg.ptrSens = 0 ∨
  s.cfg.ctrl.extractLsb' 0 2 = 3#2 ∧ (s.txLen.toNat < 5 ∨ 64 < s.txLen.toNat) ∨
  64 < (s.cfg.layout2.extractLsb' 8 8).toNat ∨ 128 < bytesNeeded s

/-- CYCLE1 refuses the configuration: one of those checks fails, or `RX_LEN` exceeds `RX_MAX` in VOLT_CL
mode, whose stage CONTROL uses it (R38, R132; in that mode alone by entry 22). -/
abbrev Cycle1Refused (s : State) : Prop :=
  ConfigRefused s ∨ s.cfg.ctrl.extractLsb' 0 2 = 2#2 ∧ 128 < s.rxLen.toNat

/-- The aligned offsets that the register map lists (`10_state.md` R20). -/
abbrev Mapped (addr : Nat) : Prop :=
  addr ≤ 0x068 ∨ 0x080 ≤ addr ∧ addr ≤ 0x094 ∨ 0x0A0 ≤ addr ∧ addr ≤ 0x0B4 ∨
  0x0C0 ≤ addr ∧ addr ≤ 0x0D4 ∨ 0x0E0 ≤ addr ∧ addr ≤ 0x0F4 ∨ 0x100 ≤ addr ∧ addr ≤ 0x114 ∨
  0x120 ≤ addr ∧ addr ≤ 0x134 ∨ 0x140 ≤ addr ∧ addr ≤ 0x154 ∨ 0x160 ≤ addr ∧ addr ≤ 0x174 ∨
  0x200 ≤ addr ∧ addr ≤ 0x2FC ∨ 0x400 ≤ addr ∧ addr ≤ 0x43C ∨ 0x500 ≤ addr ∧ addr ≤ 0x57C

/-- The offsets of the gated registers, buffers apart, and their writable bits (`10_state.md` R20, R22,
R32 to R41, R44; `20_memory.md` R57). -/
def gatedRegisters : List (Nat × Word) :=
  [(0x004, 0x0000000F), (0x034, 0xFFFFFFFF), (0x038, 0xFFFFFFFF), (0x03C, 0xFFFFFFFF),
    (0x040, 0xFFFFFFFF), (0x044, 0xFFFFFFFF), (0x048, 0xFFFFFFFF), (0x050, 0xFFFFFFFF),
    (0x058, 0x000000FF), (0x05C, 0x000000FF), (0x060, 0x00FFFFFF), (0x064, 0xFFFFFFFF),
    (0x068, 0x0007FFFF), (0x0C0, 0xFFFFFFFF), (0x0C4, 0xFFFFFFFF), (0x0C8, 0xFFFFFFFF),
    (0x0CC, 0xFFFFFFFF), (0x0D0, 0xFFFFFFFF), (0x0D4, 0xFFFFFFFF)]

/-- The offsets of the plain registers writable at any time and their writable bits (`10_state.md` R27,
R36, R42). -/
def liveRegisters : List (Nat × Word) :=
  [(0x018, 0x0000001F), (0x04C, 0xFFFFFFFF), (0x080, 0xFFFFFFFF), (0x084, 0xFFFFFFFF),
    (0x088, 0xFFFFFFFF), (0x08C, 0xFFFFFFFF), (0x090, 0xFFFFFFFF), (0x094, 0xFFFFFFFF)]

/-- The offsets of the read-only registers outside the windows (`10_state.md` R20). -/
def readOnlyRegisters : List Nat :=
  [0x000, 0x010, 0x014, 0x020, 0x024, 0x028, 0x02C, 0x030, 0x054]

/-- The offset `addr` holds a read-only register: one of those above, or one of the windows `TGT`,
`FB_POS`, `FB_VEL`, `FB_CUR`, `RAWPV`, `RAWC` and `TOUCH` (`10_state.md` R20). -/
abbrev ReadOnlyAt (addr : Nat) : Prop :=
  addr ∈ readOnlyRegisters ∨
  (∃ base ∈ [0x0A0, 0x0E0, 0x100, 0x120, 0x140, 0x160], ∃ ch : Channel, addr = base + 4 * ch.val) ∨
  ∃ i : Fin 64, addr = 0x200 + 4 * i.val

/-- The 32-bit register at offset `addr` exists and reads as `v`. -/
def ReadsAs (s : State) (addr : Nat) (v : Word) : Prop :=
  ∃ r : Reg, regAt addr 32 = some r ∧ readReg s r = v

/-- The registers outside the windows, `STATUS` and `ERR` apart: offset and value read (`10_state.md`
R20 to R41). -/
def registerWords (s : State) : List (Nat × Word) :=
  [(0x000, 0x48500007), (0x004, s.cfg.ctrl.setWidth 32), (0x00C, s.cfg.cmd), (0x010, s.result),
    (0x018, s.cfg.ie.setWidth 32), (0x01C, s.ip.setWidth 32), (0x020, s.ckerrCnt),
    (0x024, s.cycleCnt), (0x028, s.seq), (0x02C, s.elapsed), (0x030, s.phase), (0x034, s.cfg.period),
    (0x038, s.cfg.kGain), (0x03C, s.cfg.phaseRate), (0x040, s.cfg.sinAmp), (0x044, s.cfg.sinOff),
    (0x048, s.cfg.ptrSens), (0x04C, s.cfg.ptrIn), (0x050, s.cfg.cvtIn), (0x054, s.cvtOut),
    (0x058, s.txLen.setWidth 32), (0x05C, s.rxLen.setWidth 32), (0x060, s.cfg.proto.setWidth 32),
    (0x064, s.cfg.layout), (0x068, s.cfg.layout2.setWidth 32)]

/-- The number of a loop state (`45_loop.md` R125). -/
def stateNumber (x : LoopState) : Nat :=
  match x with
  | .idle => 0
  | .initialized => 1
  | .running => 2
  | .stopped => 3

/-- The number of a stage (`10_state.md` R19). -/
def stageNumber (g : Stage) : Nat :=
  match g with
  | .boundary => 0
  | .sample => 1
  | .generate => 2
  | .control => 3
  | .encode => 4
  | .exchange => 5
  | .decode => 6
  | .pace => 7

/-- The number of an error code (`60_exceptions.md` R145). -/
def errNumber (c : ErrCode) : Nat :=
  match c with
  | .none => 0
  | .illegal => 1
  | .badOperand => 2
  | .state => 3
  | .openFail => 4
  | .initFail => 5
  | .exchangeFail => 6
  | .closeFail => 7
  | .unpack => 8
  | .config => 9

/-- The word `w` has the fields of `t` where `STATUS` has them (`10_state.md` R23). -/
structure StatusFields (t : Status) (w : Word) : Prop where
  /-- `STATE`, bits 1..0 -/
  state : (w.extractLsb' 0 2).toNat = stateNumber t.state
  /-- `BUSY`, bit 2 -/
  busy : w.getLsbD 2 = t.busy
  /-- `VALID`, bit 3 -/
  valid : w.getLsbD 3 = t.valid
  /-- `STOPREQ`, bit 4 -/
  stopReq : w.getLsbD 4 = t.stopReq
  /-- `STAGE`, bits 7..5 -/
  stage : (w.extractLsb' 5 3).toNat = stageNumber t.stage
  /-- `RANGE`, bit 8 -/
  range : w.getLsbD 8 = t.range
  /-- `COLLIDE`, bit 9 -/
  collide : w.getLsbD 9 = t.collide
  /-- `OVERRUN`, bit 10 -/
  overrun : w.getLsbD 10 = t.overrun
  /-- `BUSERR`, bit 11 -/
  busErr : w.getLsbD 11 = t.busErr
  /-- `LATE`, bit 12 -/
  late : w.getLsbD 12 = t.late
  /-- `LINK`, bit 13 -/
  link : w.getLsbD 13 = t.link
  /-- bits 31..14 are reserved -/
  reserved : w.extractLsb' 14 18 = 0#18

/-- The word `w` has the fields of `e` where `ERR` has them (`10_state.md` R26). -/
structure ErrFields (e : ErrReg) (w : Word) : Prop where
  /-- `CMD_ERR`, bits 3..0 -/
  cmdErr : (w.extractLsb' 0 4).toNat = errNumber e.cmdErr
  /-- bits 7..4 read as 0 -/
  low : w.extractLsb' 4 4 = 0#4
  /-- `FATAL_CODE`, bits 11..8 -/
  fatalCode : (w.extractLsb' 8 4).toNat = errNumber e.fatalCode
  /-- `FATAL_STAGE`, bits 14..12 -/
  fatalStage : (w.extractLsb' 12 3).toNat = stageNumber e.fatalStage
  /-- bits 31..15 read as 0 -/
  high : w.extractLsb' 15 17 = 0#17

/-- The step from `s` to `t` is a hardware reset: a turn of the reset input that leaves every piece of the
block's state at its reset value (`70_reset_and_hazards.md` R160). -/
def IsHardwareReset (s t : State) : Prop :=
  (∃ b rest, s.env.agenda = .resetPin b :: rest) ∧ t = State.resetIn t.env

/-- Value `i` of the 12-bit values packed in `B` from index `base` on, in the order `TOUCH_ORDER` = `msb`,
by the table of `43_decoder.md` R109. -/
def touchValue (msb : Bool) (B : Nat → Byte) (base i : Nat) : Nat :=
  let b0 := (B (base + 3 * i / 2)).toNat
  let b1 := (B (base + 3 * i / 2 + 1)).toNat
  match msb, decide (i % 2 = 0) with
  | false, true => b0 + 256 * (b1 % 16)
  | false, false => b0 / 16 + 16 * b1
  | true, true => 16 * b0 + b1 / 16
  | true, false => 256 * (b0 % 16) + b1

/-- Two states that agree in `STATUS` but for `RANGE`, and in `IP` but for its bit `RANGE`, as a range
event when `hit` leaves them (`41_converter.md` R97). -/
def RangeFlags (hit : Bool) (s t : State) : Prop :=
  t.status = { s.status with range := s.status.range || hit } ∧
    t.ip = if hit then s.ip ||| 0b10000 else s.ip

end Sys2Proof.Machine
end

