-- ==== Sys2Proof/Certificates/Slice0/Obligations.lean ====
section
/-! DEFINITION. The statements for the provers. -/

open Sys2Proof Sys2Proof.Machine

/-! ### Encoding -/

/-- Decoding and encoding agree both ways: a command word decodes to an instruction exactly when that
instruction is well formed and is encoded by that word (R70, R71, R72, R78). -/
def Obligations.DecodeEncodeAgree : Prop :=
  ∀ (w : Word) (i : Instr), decodeWord w = .ok i ↔ i.WellFormed ∧ encode i = w

/-- Words that the spec writes out decode to the commands it says they are (R78 and the programs of
`95_test_vectors.md`). -/
def Obligations.SpecWordsDecode : Prop :=
  decodeWord 0x00110001 = .ok (.cksump .tx 17) ∧ decodeWord 0x00290103 = .ok (.valid .rx 41) ∧
  decodeWord 0x00290102 = .ok (.cksumf .rx 41) ∧ decodeWord 0x00000010 = .ok .encpos ∧
  decodeWord 0x00000632 = .ok (.cvtv2e 6) ∧ decodeWord 0x00000051 = .ok .start ∧
  decodeWord 0x00000832 = .error .reservedBits ∧ decodeWord 0x00000060 = .error .unknownOpcode

/-- A pending word that matches no row of the opcode table completes with ILLEGAL and no other effect;
a word that matches one decodes (R73). -/
def Obligations.IllegalWordRefused : Prop :=
  ∀ (w : Word),
    ((∃ i : Instr, w &&& (matchMask i).2 = (matchMask i).1) → ∃ i, decodeWord w = .ok i) ∧
    ((∀ i : Instr, w &&& (matchMask i).2 ≠ (matchMask i).1) →
      ∀ (s : State) (rest : List Turn), NextTurn .engine rest s → s.xfer = .none →
        s.oneShot = false → s.pending = some w →
        step s = .next { scheduled rest s with
          pending := none
          status := { s.status with busy := false }
          err := { s.err with cmdErr := .illegal }
          ip := s.ip ||| 0b00001 })

/-- When the Engine's turn finds a pending command word that decodes to `i`, one step is `exec i`: on the
state with that turn taken off the agenda, or, when nothing is scheduled, on the state after a free
amount of time has passed. What the step adds around `exec` is the model's own (entries 1, 3). -/
def Obligations.StepRunsDecodedCommand : Prop :=
  ∀ (s : State) (w : Word) (i : Instr), s.env.resetPin = false → s.xfer = .none →
    s.oneShot = false → s.pending = some w → decodeWord w = .ok i →
    (∀ rest, s.env.agenda = .engine :: rest → step s = exec i (scheduled rest s)) ∧
    (s.env.agenda = [] → step s = exec i (unscheduled s))

/-! ### Completion and command errors -/

/-- NOP completes in every state: nothing pending, not busy, CMD_ERR 0, CMD_DONE set, and nothing else
changes (R137, R76). -/
def Obligations.NopCompletes : Prop :=
  ∀ s : State, exec .nop s = .next { s with
    pending := none
    status := { s.status with busy := false }
    err := { s.err with cmdErr := .none }
    ip := s.ip ||| 0b00001 }

/-- In a state that the table of R77 does not list for it, every command completes with STATE and no
other effect; in a state that it lists, a command does not complete with STATE (R77). -/
def Obligations.WrongStateRefused : Prop :=
  ∀ (i : Instr) (s : State),
    (allowedIn i s.status.state = false →
      exec i s = .next { s with
        pending := none
        status := { s.status with busy := false }
        err := { s.err with cmdErr := .state }
        ip := s.ip ||| 0b00001 }) ∧
    (allowedIn i s.status.state = true → s.pending.isSome = true →
      ∀ t, exec i s = .next t → t.pending = none → t.err.cmdErr ≠ .state)

/-- A command that completes with an error code has written nothing else (R146). -/
def Obligations.FailedCommandWritesNothing : Prop :=
  ∀ (i : Instr) (s t : State), s.pending.isSome = true → exec i s = .next t → t.pending = none →
    t.err.cmdErr ≠ .none →
    t = { s with
      pending := none
      status := { s.status with busy := false }
      err := { s.err with cmdErr := t.err.cmdErr }
      ip := s.ip ||| 0b00001 }

/-- Operands out of range are refused with BAD_OPERAND and no other effect: a length beyond the buffer, a
channel above 5, an ENCRAW length outside 5..64, the reserved generator and POINTER with a zero
sensitivity (R89, R90, R91, R101, R108, R123). -/
def Obligations.OperandOutOfRangeRefused : Prop :=
  ∀ s : State, s.status.state ≠ .running →
    (∀ len, 64 < len → exec (.cksump .tx len) s = .next (complete .badOperand s) ∧
      exec (.cksumf .tx len) s = .next (complete .badOperand s) ∧
      exec (.valid .tx len) s = .next (complete .badOperand s)) ∧
    (∀ len, 128 < len → exec (.cksump .rx len) s = .next (complete .badOperand s) ∧
      exec (.cksumf .rx len) s = .next (complete .badOperand s) ∧
      exec (.valid .rx len) s = .next (complete .badOperand s)) ∧
    (∀ ch, 5 < ch → exec (.cvtv2e ch) s = .next (complete .badOperand s)) ∧
    (s.txLen.toNat < 5 ∨ 64 < s.txLen.toNat → exec .encraw s = .next (complete .badOperand s)) ∧
    (s.cfg.ctrl.extractLsb' 2 2 = 3#2 ∨ s.cfg.ctrl.extractLsb' 2 2 = 2#2 ∧ s.cfg.ptrSens = 0 →
      exec .gen s = .next (complete .badOperand s))

/-- DECODE refuses a length or touch count beyond the buffers with BAD_OPERAND, and a frame shorter than
the layout needs with UNPACK; no register is written (R112, R115). -/
def Obligations.ShortDecodeRefused : Prop :=
  ∀ s : State, s.status.state ≠ .running →
    (128 < s.rxLen.toNat ∨ 64 < (s.cfg.layout2.extractLsb' 8 8).toNat →
      exec .decode s = .next (complete .badOperand s)) ∧
    (s.rxLen.toNat ≤ 128 → (s.cfg.layout2.extractLsb' 8 8).toNat ≤ 64 →
      s.rxLen.toNat < bytesNeeded s → exec .decode s = .next (complete .unpack s))

/-- START and CYCLE1 refuse every configuration that fails a check of R139 with CONFIG and no other effect;
CYCLE1 so refuses RX_LEN above RX_MAX in VOLT_CL mode too, where the cycle would use it (R38, R139; that
this is CONFIG, of CYCLE1 and in VOLT_CL mode, is the model's reading, entry 22). -/
def Obligations.BadConfigurationRefused : Prop :=
  ∀ s : State, s.status.state = .initialized →
    (ConfigRefused s → exec .start s = .next (complete .config s)) ∧
    (Cycle1Refused s → exec .cycle1 s = .next (complete .config s))

/-! ### Checksum engine -/

/-- CKSUMP and CKSUMF leave in RESULT the negated sum, mod 256, of the bytes 1 .. LEN-3 and 0 .. LEN-2 of the
buffer that BUF names, TXBUF of 64 bytes or RXBUF of 128, and change nothing else but to complete (R9, R71,
R87, R89, R90). -/
def Obligations.ChecksumCommandsNegateSum : Prop :=
  ∀ (b : Buf) (len : Nat) (s : State) (B : Nat → Byte), s.status.state ≠ .running →
    b = .tx ∧ len ≤ 64 ∧ B = memRead s.txbuf ∨ b = .rx ∧ len ≤ 128 ∧ B = memRead s.rxbuf →
    exec (.cksump b len) s = .next (complete .none { s with
      result := BitVec.ofNat 32
        ((256 - (∑ k ∈ Finset.Ico 1 (len - 2), (B k).toNat) % 256) % 256) }) ∧
    exec (.cksumf b len) s = .next (complete .none { s with
      result := BitVec.ofNat 32
        ((256 - (∑ k ∈ Finset.Ico 0 (len - 1), (B k).toNat) % 256) % 256) })

/-- VALID reports whether the first LEN bytes of the buffer that BUF names, TXBUF of 64 bytes or RXBUF of 128,
sum to 0 mod 256 and are not all zero, in STATUS.VALID and RESULT, and changes nothing else but to complete
(R9, R71, R86, R91). -/
def Obligations.ValidReportsFrame : Prop :=
  ∀ (b : Buf) (len : Nat) (s : State) (B : Nat → Byte), s.status.state ≠ .running →
    b = .tx ∧ len ≤ 64 ∧ B = memRead s.txbuf ∨ b = .rx ∧ len ≤ 128 ∧ B = memRead s.rxbuf →
    ∃ v : Bool, (v = true ↔ Validates B len) ∧
      exec (.valid b len) s = .next (complete .none { s with
        status := { s.status with valid := v }
        result := if v then 1 else 0 })

/-- Sealing: after the payload checksum and then the frame checksum are written, both sums are 0 mod 256,
the frame checksum is the negated first byte, and the frame validates exactly when some byte is nonzero;
changing one covered byte changes either checksum (R88). -/
def Obligations.SealedFrameValidates : Prop :=
  (∀ (m : Memory) (L : Nat), m.wf Config.txMax = true → 2 ≤ L → L ≤ Config.txMax →
    let B := memRead (sealFrame m L)
    (∑ k ∈ Finset.Ico 1 (L - 1), (B k).toNat) % 256 = 0 ∧
    (∑ k ∈ Finset.range L, (B k).toNat) % 256 = 0 ∧ B (L - 1) = -B 0 ∧
    (Validates B L ↔ ∃ k, k < L ∧ B k ≠ 0)) ∧
  (∀ (B C : Nat → Byte) (L i : Nat), B i ≠ C i → (∀ k, k ≠ i → B k = C k) →
    (1 ≤ i → i < L - 2 → cksP B L ≠ cksP C L) ∧ (i < L - 1 → cksF B L ≠ cksF C L))

/-! ### Unit converter -/

/-- `rhaz` is the nearest integer with ties away from zero, and `trunc` rounds toward zero (R12). -/
def Obligations.RoundingIsNearest : Prop :=
  ∀ n d : Int, d ≠ 0 →
    2 * |rhaz n d * d - n| ≤ |d| ∧ (2 * |rhaz n d * d - n| = |d| → |n| < |rhaz n d * d|) ∧
    trunc n d = n.tdiv d

/-- CVTD2R writes the rounded and clamped raw value and raises a range event exactly when the angle
exceeds 150 degrees; within 150 degrees no clamp acts (R92, R97, R99). -/
def Obligations.DegreesToRawClamps : Prop :=
  ∀ s : State, s.status.state ≠ .running →
    let q := s.cfg.cvtIn.toInt
    let r := rhaz (q * 32767) 9830400
    (∃ t, exec .cvtd2r s = .next (complete .none t) ∧ RangeFlags (decide (9830400 < |q|)) s t ∧
      t = { s with
        status := t.status, ip := t.ip
        cvtOut := BitVec.ofInt 32 (max (-32768) (min 32767 r)) }) ∧
    (|q| ≤ 9830400 → -32767 ≤ r ∧ r ≤ 32767)

/-- CVTR2D, CVTV2E and CVTC2P write the exact rational result rounded once, and change nothing else but
to complete (R93, R94, R95, R100, R101, R102). -/
def Obligations.RawConversionsRoundOnce : Prop :=
  ∀ s : State, s.status.state ≠ .running →
    let raw := (s.cfg.cvtIn.extractLsb' 0 16).toInt
    let byte := s.cfg.cvtIn.extractLsb' 0 8
    let c : Int := if s.cfg.layout2.getLsbD 18 then byte.toInt else byte.toNat
    exec .cvtr2d s = .next (complete .none { s with
      cvtOut := BitVec.ofInt 32 (rhaz (raw * 150 * 65536) 32767) }) ∧
    (∀ ch, ch < 5 → exec (.cvtv2e ch) s = .next (complete .none { s with
      cvtOut := BitVec.ofInt 32 (rhaz (raw * 65536) 2596) })) ∧
    exec (.cvtv2e 5) s = .next (complete .none { s with
      cvtOut := BitVec.ofInt 32 (rhaz (raw * 65536 * 5) 3249) }) ∧
    exec .cvtc2p s = .next (complete .none { s with
      cvtOut := BitVec.ofInt 32 (rhaz (c * 65536 * 27) 350000) })

/-- Degrees to raw to degrees is within 150 Q16.16 units for angles within 150 degrees (R98). -/
def Obligations.DegreeRoundTrip : Prop :=
  ∀ q : Int, |q| ≤ 150 * 65536 → |r2d (d2r q) - q| ≤ 150

/-! ### Frame encoder -/

/-- ENCPOS builds the position frame of CMDV in TXBUF, sets TX_LEN to 17 and RESULT to the check bytes,
raises a range event exactly when some angle exceeds 150 degrees, and leaves every other byte and register
but those of completion alone (R103, R105, R106). -/
def Obligations.EncposBuildsFrame : Prop :=
  ∀ s : State, s.status.state ≠ .running → s.txbuf.wf Config.txMax = true →
    ∃ t, exec .encpos s = .next (complete .none t) ∧
      RangeFlags (decide (∃ ch : Channel, 9830400 < |(s.cmdv.get ch).toInt|)) s t ∧
      MotionFrame (s.cfg.proto.extractLsb' 0 8) (s.cfg.proto.extractLsb' 8 8)
        (fun ch => max (-32768) (min 32767 (rhaz ((s.cmdv.get ch).toInt * 32767) 9830400)))
        (memRead t.txbuf) ∧
      (∀ k, 17 ≤ k → memRead t.txbuf k = memRead s.txbuf k) ∧
      t = { s with
        status := t.status, ip := t.ip, txbuf := t.txbuf, txLen := 17
        result := (memRead t.txbuf 16 ++ memRead t.txbuf 15).setWidth 32 }

/-- ENCVOLT builds the voltage frame of CMDV, volts truncated toward zero, and never raises a range event
(R96, R103, R105, R107). -/
def Obligations.EncvoltBuildsFrame : Prop :=
  ∀ s : State, s.status.state ≠ .running → s.txbuf.wf Config.txMax = true →
    ∃ t, exec .encvolt s = .next (complete .none t) ∧
      MotionFrame (s.cfg.proto.extractLsb' 0 8) (s.cfg.proto.extractLsb' 16 8)
        (fun ch => (s.cmdv.get ch).toInt.tdiv 65536) (memRead t.txbuf) ∧
      (∀ k, 17 ≤ k → memRead t.txbuf k = memRead s.txbuf k) ∧
      t = { s with
        txbuf := t.txbuf, txLen := 17
        result := (memRead t.txbuf 16 ++ memRead t.txbuf 15).setWidth 32 }

/-- ENCRAW writes the length and the two checksums of a frame of L = TX_LEN bytes, whose checksum is then
256 - L, and leaves every other byte and register but those of completion alone (R108). -/
def Obligations.EncrawSealsFrame : Prop :=
  ∀ s : State, s.status.state ≠ .running → s.txbuf.wf Config.txMax = true →
    5 ≤ s.txLen.toNat → s.txLen.toNat ≤ 64 →
    let L := s.txLen.toNat
    ∃ t, exec .encraw s = .next (complete .none t) ∧
      memRead t.txbuf 0 = s.txLen ∧ memRead t.txbuf (L - 1) = -s.txLen ∧
      (∑ k ∈ Finset.Ico 1 (L - 1), (memRead t.txbuf k).toNat) % 256 = 0 ∧
      (∀ k, k ≠ 0 → k ≠ L - 2 → k ≠ L - 1 → memRead t.txbuf k = memRead s.txbuf k) ∧
      t = { s with
        txbuf := t.txbuf
        result := (memRead t.txbuf (L - 1) ++ memRead t.txbuf (L - 2)).setWidth 32 }

/-! ### Frame decoder -/

/-- DECODE publishes, for a frame long enough, every channel's position, velocity, current and raw values
and the touch array (by the table of R109, in either nibble order), counts the snapshot, reports validity,
and changes nothing else but to complete (R82, R109, R113, R115). -/
def Obligations.DecodePublishesFeedback : Prop :=
  ∀ s : State, s.status.state ≠ .running → s.rxLen.toNat ≤ 128 →
    (s.cfg.layout2.extractLsb' 8 8).toNat ≤ 64 → bytesNeeded s ≤ s.rxLen.toNat →
    let rx := memRead s.rxbuf
    let field (lo : Nat) : Nat := (s.cfg.layout.extractLsb' lo 8).toNat
    let le16At (k : Nat) : BitVec 16 := rx (k + 1) ++ rx k
    let rp (ch : Channel) := le16At (field 0 + 4 * ch.val)
    let rv (ch : Channel) := le16At (field 8 + 4 * ch.val)
    let rc (ch : Channel) := rx (field 16 + (s.cfg.layout2.extractLsb' 0 8).toNat * ch.val)
    let sign (ch : Channel) : Int := if ch = 5 ∧ s.cfg.layout2.getLsbD 17 = true then -1 else 1
    ∃ (v : Bool) (f : Feedback), (v = true ↔ Validates rx s.rxLen.toNat) ∧
      (∀ ch, f.pos.get ch =
        BitVec.ofInt 32 (sign ch * rhaz ((rp ch).toInt * 150 * 65536) 32767)) ∧
      (∀ ch, f.vel.get ch = BitVec.ofInt 32 (sign ch *
        (if ch = 5 then rhaz ((rv ch).toInt * 65536 * 5) 3249
          else rhaz ((rv ch).toInt * 65536) 2596))) ∧
      (∀ ch, f.cur.get ch = BitVec.ofInt 32 (rhaz
        ((if s.cfg.layout2.getLsbD 18 then (rc ch).toInt else (rc ch).toNat) * 65536 * 27) 350000)) ∧
      (∀ ch, f.rawPV.get ch = rv ch ++ rp ch) ∧ (∀ ch, f.rawC.get ch = rc ch) ∧
      (∀ i : Fin 64, (f.touch.get i).toNat =
        if i.val < (s.cfg.layout2.extractLsb' 8 8).toNat then
          touchValue (s.cfg.layout2.getLsbD 16) rx (field 24) i.val
        else 0) ∧
      exec .decode s = .next (complete .none { s with
        fb := f, seq := s.seq + 1
        status := { s.status with valid := v }
        result := if v then 1 else 0 })

/-- Unpacking the packed touch values gives them back, in either nibble order (R109, R111). -/
def Obligations.TouchPackUnpack : Prop :=
  ∀ (msb : Bool) (vals : List (BitVec 12)) (i : Nat) (h : i < vals.length),
    unpack12 msb (pack12 msb vals) 0 i = vals[i]

/-! ### Generators and control law -/

/-- GEN writes TGT from the selected generator: the setpoints, the wave (channel 5 negated) or the
pointer's quotient (channel 5 negated), saturated to 32 bits with a range event exactly when a saturation
acts, and changes nothing else but to complete; the wave's sine has the four values and the bounds that
R118 requires, and is a free value otherwise (R116, R117, R118, R119, R120, R123, entry 12). -/
def Obligations.GenWritesTarget : Prop :=
  (sinq 0 = 0 ∧ sinq 0x40000000 = 65536 ∧ sinq 0x80000000 = 0 ∧ sinq 0xC0000000 = -65536 ∧
    ∀ a : Word, -65536 ≤ sinq a ∧ sinq a ≤ 65536) ∧
  ∀ s : State, s.status.state ≠ .running →
    let clamp (v : Int) : Int := max (-2147483648) (min 2147483647 v)
    let wave (ch : Channel) : Int :=
      let angle := BitVec.ofNat 32 (s.phase.toNat + ch.val * 683565276)
      (if ch = 5 then -1 else 1) *
        (rhaz (s.cfg.sinAmp.toInt * sinq angle) 65536 + s.cfg.sinOff.toInt)
    let quotient := rhaz (s.cfg.ptrIn.toInt * 65536) s.cfg.ptrSens.toInt
    let pointer (ch : Channel) : Int := (if ch = 5 then -1 else 1) * clamp quotient
    (s.cfg.ctrl.extractLsb' 2 2 = 0#2 →
      exec .gen s = .next (complete .none { s with tgt := s.cfg.setpoint })) ∧
    (s.cfg.ctrl.extractLsb' 2 2 = 1#2 →
      ∃ t, exec .gen s = .next (complete .none t) ∧
        RangeFlags (decide (∃ ch, clamp (wave ch) ≠ wave ch)) s t ∧
        (∀ ch, t.tgt.get ch = BitVec.ofInt 32 (clamp (wave ch))) ∧
        t = { s with tgt := t.tgt, status := t.status, ip := t.ip }) ∧
    (s.cfg.ctrl.extractLsb' 2 2 = 2#2 → s.cfg.ptrSens ≠ 0 →
      ∃ t, exec .gen s = .next (complete .none t) ∧
        RangeFlags
          (decide (clamp quotient ≠ quotient ∨ ∃ ch, clamp (pointer ch) ≠ pointer ch)) s t ∧
        (∀ ch, t.tgt.get ch = BitVec.ofInt 32 (clamp (pointer ch))) ∧
        t = { s with tgt := t.tgt, status := t.status, ip := t.ip })

/-- CTLAW writes CMDV by the proportional-minus-velocity law, rounded once and saturated to 32 bits with a
range event exactly when a saturation acts, and changes nothing else but to complete (R121, R124). -/
def Obligations.CtlawWritesCommand : Prop :=
  ∀ s : State, s.status.state ≠ .running →
    let clamp (v : Int) : Int := max (-2147483648) (min 2147483647 v)
    let u (ch : Channel) : Int :=
      rhaz (s.cfg.kGain.toInt * ((s.tgt.get ch).toInt - (s.fb.pos.get ch).toInt)) 65536 -
        (s.fb.vel.get ch).toInt
    ∃ t, exec .ctlaw s = .next (complete .none t) ∧
      RangeFlags (decide (∃ ch, clamp (u ch) ≠ u ch)) s t ∧
      (∀ ch, t.cmdv.get ch = BitVec.ofInt 32 (clamp (u ch))) ∧
      t = { s with cmdv := t.cmdv, status := t.status, ip := t.ip }

/-- With every target equal to the measured position and no measured velocity, the control law commands
zero on every channel, for every gain (R122). -/
def Obligations.CtlawZeroAtTarget : Prop :=
  ∀ s : State, (∀ ch, s.tgt.get ch = s.fb.pos.get ch) → (∀ ch, s.fb.vel.get ch = 0) →
    ctlaw s = { s with cmdv := Six.all 0 }

/-! ### Lifecycle commands -/

/-- INIT in IDLE makes the OPEN request, and CYCLE1 in INITIALIZED under a configuration that can run
starts a cycle at SAMPLE; neither changes anything else (R138, R144; that RX_LEN above RX_MAX stops CYCLE1
in VOLT_CL mode and in no other, and that in RAW mode neither generator 3 nor a zero sensitivity stops it, is
the model's choice, entries 22 and 23). -/
def Obligations.InitAndCycle1Start : Prop :=
  ∀ s : State,
    (s.status.state = .idle → exec .init s = .next { s with xfer := .opening }) ∧
    (s.status.state = .initialized → ¬ Cycle1Refused s →
      exec .cycle1 s = .next { s with
        oneShot := true
        status := { s.status with stage := .sample } })

/-- The Transport's answer to OPEN: OK opens the link and enters INITIALIZED with an empty receive buffer
and a fresh time origin; OPEN_FAIL and INIT_FAIL are fatal and complete INIT with their codes (R138,
R147). -/
def Obligations.OpenAnswer : Prop :=
  ∀ (s : State) (rest : List Turn) (a : Answer), NextTurn (.transport a) rest s →
    s.xfer = .opening →
    let failed (c : ErrCode) : State := { scheduled rest s with
      xfer := .none, pending := none, oneShot := false
      status := { s.status with
        state := .stopped, link := false, stopReq := false, stage := .boundary, busy := false }
      err := { cmdErr := c, fatalCode := c, fatalStage := .boundary }
      ip := s.ip ||| 0b00100 ||| 0b00001 }
    (∀ rx, a = .ok rx → step s = .next (complete .none { scheduled rest s with
      xfer := .none, t0 := s.env.now, rxbuf := [], rxLen := 0
      status := { s.status with link := true, valid := false, state := .initialized } })) ∧
    (a = .fail → step s = .next (failed .openFail)) ∧
    (a = .initFail → step s = .next (failed .initFail))

/-- START in INITIALIZED under a configuration that can run enters RUNNING at BOUNDARY with a fresh time
origin, an empty receive buffer and CYCLE_CNT 0, and completes (R140; that neither RX_LEN above RX_MAX,
which START clears, nor, in RAW mode, generator 3 or a zero sensitivity stops START is the model's choice,
entries 22 and 23). -/
def Obligations.StartEntersRunning : Prop :=
  ∀ s : State, s.status.state = .initialized → ¬ ConfigRefused s →
    exec .start s = .next (complete .none { s with
      t0 := s.env.now, rxbuf := [], rxLen := 0, cycleCnt := 0
      status := { s.status with
        valid := false, stopReq := false, stage := .boundary, state := .running } })

/-- STOP asks a running loop to stop and completes at once; in INITIALIZED it requests CLOSE, which leads
to STOPPED (R141). -/
def Obligations.StopRequests : Prop :=
  ∀ s : State,
    (s.status.state = .running → exec .stop s = .next (complete .none { s with
      status := { s.status with stopReq := true } })) ∧
    (s.status.state = .initialized → exec .stop s = .next { s with
      xfer := .closing, afterClose := .stopped })

/-- RESET in IDLE and STOPPED leaves every piece of state at its reset value but the host-written registers
and the completion's CMD_DONE; in INITIALIZED it requests CLOSE, which leads to IDLE (R142, R143). -/
def Obligations.ResetClears : Prop :=
  ∀ s : State,
    (s.status.state = .idle ∨ s.status.state = .stopped →
      exec .reset s = .next { State.reset with cfg := s.cfg, env := s.env, ip := 0b00001 }) ∧
    (s.status.state = .initialized → exec .reset s = .next { s with
      xfer := .closing, afterClose := .idle })

/-! ### The loop -/

/-- Stages BOUNDARY and PACE: a requested stop makes the CLOSE request, else the cycle begins; PACE waits
until the deadline TA + PERIOD and then ends the cycle (R128, R136; the deadline is the exact sum, the
model's reading, entry 10). -/
def Obligations.BoundaryAndPaceStages : Prop :=
  ∀ (s : State) (rest : List Turn),
    (AtStage .boundary rest s →
      (s.status.stopReq = true → step s = .next { scheduled rest s with
        xfer := .closing, afterClose := .stopped }) ∧
      (s.status.stopReq = false → step s = .next { scheduled rest s with
        status := { s.status with stage := .sample } })) ∧
    (AtStage .pace rest s →
      (s.env.now.toNat < s.ta.toNat + s.cfg.period.toNat → step s = .next (scheduled rest s)) ∧
      (s.ta.toNat + s.cfg.period.toNat ≤ s.env.now.toNat → step s = .next { scheduled rest s with
        cycleCnt := s.cycleCnt + 1
        ip := s.ip ||| 0b00010
        status := { s.status with stage := .boundary } }))

/-- While a request waits for its answer the Engine has no step, nor has it with no command pending outside
a cycle, and with no request in flight the Transport has none: such a turn changes nothing. The Clock's turn
moves the Clock's reading alone, and only forward, and no step of any agent lets it decrease (R8, R126, R152;
that a smaller value offered is ignored is the model's form of R8, entry 3). -/
def Obligations.AgentsWithoutStep : Prop :=
  (∀ (s : State) (rest : List Turn),
    (NextTurn .engine rest s →
      s.xfer ≠ .none ∨ s.pending = none ∧ s.oneShot = false ∧ s.status.state ≠ .running →
      step s = .next (scheduled rest s)) ∧
    (∀ a, NextTurn (.transport a) rest s → s.xfer = .none → step s = .next (scheduled rest s)) ∧
    (∀ x : Ticks, NextTurn (.clock x) rest s →
      let u := scheduled rest s
      (s.env.now.toNat ≤ x.toNat → step s = .next { u with env := { u.env with now := x } }) ∧
      (x.toNat < s.env.now.toNat → step s = .next u))) ∧
  ∀ s t : State, step s = .next t → s.env.now.toNat ≤ t.env.now.toNat

/-- Stage SAMPLE reads the Clock and writes ELAPSED and PHASE modulo 2^32 (R30, R31, R130). -/
def Obligations.SampleStage : Prop :=
  ∀ (s : State) (rest : List Turn), AtStage .sample rest s →
    let e : Word := BitVec.ofInt 32 ((s.env.now.toNat : Int) - s.t0.toNat)
    step s = .next { scheduled rest s with
      ta := s.env.now
      elapsed := e
      phase := BitVec.ofNat 32 (s.cfg.phaseRate.toNat * e.toNat)
      status := { s.status with stage := .generate } }

/-- Stage GENERATE leaves TGT alone in RAW mode and runs the generator in every other (R131): with the
direct generator the setpoints become the targets. -/
def Obligations.GenerateStage : Prop :=
  ∀ (s : State) (rest : List Turn), AtStage .generate rest s →
    (s.cfg.ctrl.extractLsb' 0 2 = 3#2 → step s = .next { scheduled rest s with
      status := { s.status with stage := .control } }) ∧
    (s.cfg.ctrl.extractLsb' 0 2 ≠ 3#2 → ¬ ConfigRefused s →
      step s = .next (setStage .control (gen (scheduled rest s))) ∧
      (s.cfg.ctrl.extractLsb' 2 2 = 0#2 → step s = .next { scheduled rest s with
        tgt := s.cfg.setpoint
        status := { s.status with stage := .control } }))

/-- Stage CONTROL: the open modes send the targets, RAW sends nothing of CMDV, and the closed loop applies
the control law when the last telemetry is valid and holds CMDV when it is not (R132). -/
def Obligations.ControlStage : Prop :=
  ∀ (s : State) (rest : List Turn), AtStage .control rest s →
    let held : State := { scheduled rest s with status := { s.status with stage := .encode } }
    (s.cfg.ctrl.extractLsb' 0 2 = 0#2 ∨ s.cfg.ctrl.extractLsb' 0 2 = 1#2 →
      step s = .next { held with cmdv := s.tgt }) ∧
    (s.cfg.ctrl.extractLsb' 0 2 = 3#2 → step s = .next held) ∧
    (s.cfg.ctrl.extractLsb' 0 2 = 2#2 → s.rxLen.toNat ≤ 128 →
      (Validates (memRead s.rxbuf) s.rxLen.toNat → step s = .next (ctlaw held)) ∧
      (¬ Validates (memRead s.rxbuf) s.rxLen.toNat → step s = .next held))

/-- Stage ENCODE builds the frame of the mode in TXBUF, and leaves RESULT and every other register but
TX_LEN and, for positions, the range flags alone (R133). -/
def Obligations.EncodeStage : Prop :=
  ∀ (s : State) (rest : List Turn), AtStage .encode rest s → s.txbuf.wf Config.txMax = true →
    let u := scheduled rest s
    let addr := s.cfg.proto.extractLsb' 0 8
    (s.cfg.ctrl.extractLsb' 0 2 = 0#2 → ∃ t, step s = .next (setStage .exchange t) ∧
      RangeFlags (decide (∃ ch : Channel, 9830400 < |(s.cmdv.get ch).toInt|)) s t ∧
      MotionFrame addr (s.cfg.proto.extractLsb' 8 8)
        (fun ch => max (-32768) (min 32767 (rhaz ((s.cmdv.get ch).toInt * 32767) 9830400)))
        (memRead t.txbuf) ∧
      (∀ k, 17 ≤ k → memRead t.txbuf k = memRead s.txbuf k) ∧
      t = { u with status := t.status, ip := t.ip, txbuf := t.txbuf, txLen := 17 }) ∧
    (s.cfg.ctrl.extractLsb' 0 2 = 1#2 ∨ s.cfg.ctrl.extractLsb' 0 2 = 2#2 →
      ∃ t, step s = .next (setStage .exchange t) ∧
      MotionFrame addr (s.cfg.proto.extractLsb' 16 8)
        (fun ch => (s.cmdv.get ch).toInt.tdiv 65536) (memRead t.txbuf) ∧
      (∀ k, 17 ≤ k → memRead t.txbuf k = memRead s.txbuf k) ∧
      t = { u with txbuf := t.txbuf, txLen := 17 }) ∧
    (s.cfg.ctrl.extractLsb' 0 2 = 3#2 → 5 ≤ s.txLen.toNat → s.txLen.toNat ≤ 64 →
      let L := s.txLen.toNat
      ∃ t, step s = .next (setStage .exchange t) ∧
      memRead t.txbuf 0 = s.txLen ∧ Validates (memRead t.txbuf) L ∧
      (∑ k ∈ Finset.Ico 1 (L - 1), (memRead t.txbuf k).toNat) % 256 = 0 ∧
      (∀ k, k ≠ 0 → k ≠ L - 2 → k ≠ L - 1 → memRead t.txbuf k = memRead s.txbuf k) ∧
      t = { u with txbuf := t.txbuf })

/-- Stage EXCHANGE hands the Transport a copy of the first TX_LEN bytes of TXBUF, and changes nothing else
(R134). -/
def Obligations.ExchangeRequest : Prop :=
  ∀ (s : State) (rest : List Turn), AtStage .exchange rest s → s.txLen.toNat ≤ 64 →
    ∃ tx : List Byte, step s = .next { scheduled rest s with xfer := .exchange tx } ∧
      tx.length = s.txLen.toNat ∧ ∀ k (h : k < tx.length), tx[k] = memRead s.txbuf k

/-- The Transport's answer to EXCHANGE: OK stores the received bytes, zeroes the rest of RXBUF and goes on
to DECODE; FAIL is fatal at stage 5, keeps RXBUF and RX_LEN, and completes a CYCLE1 with its code (R134,
R147). -/
def Obligations.ExchangeAnswer : Prop :=
  ∀ (s : State) (rest : List Turn) (a : Answer) (tx : List Byte),
    NextTurn (.transport a) rest s → s.xfer = .exchange tx →
    let failed : State := { scheduled rest s with
      xfer := .none, oneShot := false
      status := { s.status with
        state := .stopped, link := false, stopReq := false, stage := .boundary }
      err := { s.err with fatalCode := .exchangeFail, fatalStage := .exchange }
      ip := s.ip ||| 0b00100 }
    (∀ rx : List Byte, a = .ok rx → rx.length ≤ 128 → ∃ m : Memory,
      step s = .next { scheduled rest s with
        rxbuf := m, rxLen := BitVec.ofNat 8 rx.length, xfer := .none
        status := { s.status with stage := .decode } } ∧
      m.wf Config.rxMax = true ∧ ∀ k, memRead m k = rx.getD k 0) ∧
    (a = .fail → s.oneShot = false → step s = .next failed) ∧
    (a = .fail → s.oneShot = true → step s = .next (complete .exchangeFail failed))

/-- Stage DECODE in RUNNING: an invalid frame is discarded and counted, a valid one that is too short is
fatal at stage 6, any other is decoded; the cycle goes on to PACE and LATE is set past the deadline (R135,
R147; the deadline is the exact sum, the model's reading, entry 10). -/
def Obligations.DecodeStageInRunning : Prop :=
  ∀ (s : State) (rest : List Turn), AtStage .decode rest s → s.oneShot = false →
    s.rxLen.toNat ≤ 128 →
    let late := s.status.late ||
      decide (s.cfg.period ≠ 0 ∧ s.ta.toNat + s.cfg.period.toNat < s.env.now.toNat)
    let u := scheduled rest s
    (¬ Validates (memRead s.rxbuf) s.rxLen.toNat → step s = .next { u with
      ckerrCnt := s.ckerrCnt + 1
      ip := s.ip ||| 0b01000
      status := { s.status with valid := false, stage := .pace, late := late } }) ∧
    (Validates (memRead s.rxbuf) s.rxLen.toNat → s.rxLen.toNat < bytesNeeded s →
      step s = .next { u with
        xfer := .none
        status := { s.status with
          valid := true, state := .stopped, link := false, stopReq := false, stage := .boundary }
        err := { s.err with fatalCode := .unpack, fatalStage := .decode }
        ip := s.ip ||| 0b00100 }) ∧
    (Validates (memRead s.rxbuf) s.rxLen.toNat → bytesNeeded s ≤ s.rxLen.toNat →
      step s = .next { u with
        fb := decodedFeedback u, seq := s.seq + 1
        status := { s.status with valid := true, stage := .pace, late := late } })

/-- Stage DECODE of a CYCLE1 cycle does the same work, and ends the cycle and the command instead of going
on to PACE; a valid frame that is too short completes it with UNPACK (R135, R144, R147). -/
def Obligations.DecodeStageEndsCycle1 : Prop :=
  ∀ (s : State) (rest : List Turn), AtStage .decode rest s → s.oneShot = true →
    s.rxLen.toNat ≤ 128 →
    let u := scheduled rest s
    let finished (v : Bool) : State := { u with
      cycleCnt := s.cycleCnt + 1, oneShot := false, pending := none
      err := { s.err with cmdErr := .none }
      ip := s.ip ||| 0b00010 ||| 0b00001
      status := { s.status with valid := v, stage := .boundary, busy := false } }
    (¬ Validates (memRead s.rxbuf) s.rxLen.toNat → step s = .next { finished false with
      ckerrCnt := s.ckerrCnt + 1
      ip := s.ip ||| 0b01000 ||| 0b00010 ||| 0b00001 }) ∧
    (Validates (memRead s.rxbuf) s.rxLen.toNat → s.rxLen.toNat < bytesNeeded s →
      step s = .next { u with
        xfer := .none, oneShot := false, pending := none
        status := { s.status with
          valid := true, state := .stopped, link := false, stopReq := false, stage := .boundary
          busy := false }
        err := { cmdErr := .unpack, fatalCode := .unpack, fatalStage := .decode }
        ip := s.ip ||| 0b00100 ||| 0b00001 }) ∧
    (Validates (memRead s.rxbuf) s.rxLen.toNat → bytesNeeded s ≤ s.rxLen.toNat →
      step s = .next { finished true with fb := decodedFeedback u, seq := s.seq + 1 })

/-- The Transport's answer to CLOSE: after a RESET everything but the host-written registers is cleared
whatever the answer; otherwise OK stops the loop and drops the link, and FAIL is fatal with CLOSE_FAIL;
a STOP that made the request completes with it (R129, R142, R147; that a STOP not yet started does not
complete is the model's reading, entry 8). -/
def Obligations.CloseAnswer : Prop :=
  ∀ (s : State) (rest : List Turn) (a : Answer), NextTurn (.transport a) rest s →
    s.xfer = .closing → s.oneShot = false →
    let u := scheduled rest s
    let halted : Status := { s.status with
      state := .stopped, link := false, stopReq := false, stage := .boundary }
    let ended : State := { u with xfer := .none, status := halted }
    let failed : State := { u with
      xfer := .none
      status := halted
      err := { s.err with fatalCode := .closeFail, fatalStage := .boundary }
      ip := s.ip ||| 0b00100 }
    (s.afterClose = .idle → step s = .next { State.reset with
      cfg := s.cfg, env := u.env, ip := 0b00001 }) ∧
    (s.afterClose = .stopped → s.status.state = .running →
      (∀ rx, a = .ok rx → step s = .next ended) ∧ (a = .fail → step s = .next failed)) ∧
    (s.afterClose = .stopped → s.status.state = .initialized →
      (∀ rx, a = .ok rx → step s = .next (complete .none ended)) ∧
      (a = .fail → step s = .next (complete .closeFail failed)))

/-- A CYCLE1 command whose exchange the Transport answers runs to its end in eight turns (turns are the
model's form of the total order of steps, entry 1; that RX_LEN above RX_MAX stops CYCLE1 in VOLT_CL mode and
in no other, and that in RAW mode neither generator 3 nor a zero sensitivity stops it, is the model's choice,
entries 22 and 23): a valid frame shorter than the layout needs stops the block with UNPACK; with any other
the cycle is counted and the command completes with success in INITIALIZED, a valid frame decoded, an invalid
one discarded and counted (R127, R135, R144, R147). -/
def Obligations.Cycle1RunsToEnd : Prop :=
  ∀ (s : State) (rx : List Byte) (rest : List Turn), Inv s → s.env.resetPin = false →
    s.status.state = .initialized → s.xfer = .none → s.oneShot = false →
    s.pending = some 0x54 → ¬ Cycle1Refused s → rx.length ≤ 128 →
    s.env.agenda = .engine :: .engine :: .engine :: .engine :: .engine :: .engine ::
      .transport (.ok rx) :: .engine :: rest →
    let valid := Validates (fun k => rx.getD k 0) rx.length
    ∃ t : State, Sys2Proof.core.run 8 s = .next t ∧ t.env.agenda = rest ∧ t.xfer = .none ∧
      t.oneShot = false ∧ t.pending = none ∧ t.status.busy = false ∧
      t.status.stage = .boundary ∧
      (valid ∧ rx.length < bytesNeeded s →
        t.status.state = .stopped ∧ t.err.cmdErr = .unpack ∧ t.err.fatalCode = .unpack ∧
          t.err.fatalStage = .decode ∧ t.cycleCnt = s.cycleCnt ∧ t.seq = s.seq ∧ t.fb = s.fb) ∧
      (¬ (valid ∧ rx.length < bytesNeeded s) →
        t.status.state = .initialized ∧ t.err.cmdErr = .none ∧ t.cycleCnt = s.cycleCnt + 1) ∧
      (valid ∧ bytesNeeded s ≤ rx.length → t.seq = s.seq + 1 ∧ t.fb = decodedFeedback t) ∧
      (¬ valid → t.ckerrCnt = s.ckerrCnt + 1 ∧ t.seq = s.seq ∧ t.fb = s.fb)

/-! ### The host bus -/

/-- Issue: a write of CMD is dropped with OVERRUN while BUSY, and otherwise makes the word the pending
command (R74). -/
def Obligations.CommandIssue : Prop :=
  ∀ (s : State) (rest : List Turn) (v : Word), NextTurn (.host (.write 0x00C 32 v)) rest s →
    (s.status.busy = true → step s = .next { scheduled rest s with
      status := { s.status with overrun := true } }) ∧
    (s.status.busy = false → step s = .next { scheduled rest s with
      cfg := { s.cfg with cmd := v }
      pending := some v
      status := { s.status with busy := true } })

/-- An access that is not 32 bits wide, not aligned or not mapped sets BUSERR and does nothing else: a
read returns 0, a write changes nothing (R20, R56). That an offset of 0x1000 or more, which R52 and R55
leave outside the space, is unmapped too is the model's reading (entry 21). -/
def Obligations.BadAccessSetsBuserr : Prop :=
  ∀ (s : State) (rest : List Turn) (addr width : Nat) (v : Word),
    width ≠ 32 ∨ addr % 4 ≠ 0 ∨ ¬ Mapped addr →
    let u := scheduled rest s
    (NextTurn (.host (.read addr width)) rest s → step s = .next { u with
      status := { s.status with busErr := true }
      env := { u.env with busOut := 0 } }) ∧
    (NextTurn (.host (.write addr width v)) rest s → step s = .next { u with
      status := { s.status with busErr := true } })

/-- A read of a mapped register changes nothing in the block, and returns the same value again; each offset
of the map reads its own register, with the fields of STATUS and ERR at their places and the bytes of a
buffer word low byte first (R20, R23, R26, R48, R49, R55, R58). -/
def Obligations.ReadsChangeNothing : Prop :=
  (∀ (addr : Nat), addr % 4 = 0 → Mapped addr → ∃ r : Reg, regAt addr 32 = some r ∧
    ∀ (s : State) (rest : List Turn), NextTurn (.host (.read addr 32)) rest s →
      let u := scheduled rest s
      step s = .next { u with env := { u.env with busOut := readReg s r } } ∧
      readReg { u with env := { u.env with busOut := readReg s r } } r = readReg s r) ∧
  ∀ s : State,
    (∀ entry ∈ registerWords s, ReadsAs s entry.1 entry.2) ∧
    (∃ w, ReadsAs s 0x008 w ∧ StatusFields s.status w) ∧
    (∃ w, ReadsAs s 0x014 w ∧ ErrFields s.err w) ∧
    (∀ ch : Channel,
      ReadsAs s (0x080 + 4 * ch.val) (s.cfg.setpoint.get ch) ∧
      ReadsAs s (0x0A0 + 4 * ch.val) (s.tgt.get ch) ∧
      ReadsAs s (0x0C0 + 4 * ch.val) (s.cmdv.get ch) ∧
      ReadsAs s (0x0E0 + 4 * ch.val) (s.fb.pos.get ch) ∧
      ReadsAs s (0x100 + 4 * ch.val) (s.fb.vel.get ch) ∧
      ReadsAs s (0x120 + 4 * ch.val) (s.fb.cur.get ch) ∧
      ReadsAs s (0x140 + 4 * ch.val) (s.fb.rawPV.get ch) ∧
      ReadsAs s (0x160 + 4 * ch.val) ((s.fb.rawC.get ch).setWidth 32)) ∧
    (∀ i : Fin 64, ReadsAs s (0x200 + 4 * i.val) ((s.fb.touch.get i).setWidth 32)) ∧
    (∀ w : Fin 16, ∃ v, ReadsAs s (0x400 + 4 * w.val) v ∧
      ∀ j : Fin 4, v.extractLsb' (8 * j.val) 8 = memRead s.txbuf (4 * w.val + j.val)) ∧
    (∀ w : Fin 32, ∃ v, ReadsAs s (0x500 + 4 * w.val) v ∧
      ∀ j : Fin 4, v.extractLsb' (8 * j.val) 8 = memRead s.rxbuf (4 * w.val + j.val))

/-- The write gate: in RUNNING or while BUSY a write of a gated register or of a buffer word is dropped
with COLLIDE and changes nothing else; a write of a read-only register is ignored without a flag in every
state (R20, R57). -/
def Obligations.ClosedGateDropsWrite : Prop :=
  ∀ (s : State) (rest : List Turn) (addr : Nat) (v : Word),
    NextTurn (.host (.write addr 32 v)) rest s →
    ((∃ m, (addr, m) ∈ gatedRegisters) ∨ (∃ w < 16, addr = 0x400 + 4 * w) ∨
        (∃ w < 32, addr = 0x500 + 4 * w) →
      s.status.state = .running ∨ s.status.busy = true →
      step s = .next { scheduled rest s with status := { s.status with collide := true } }) ∧
    (ReadOnlyAt addr → step s = .next (scheduled rest s))

/-- An accepted write of a plain register reads back as written in its existing bits: the gated ones
outside RUNNING while not BUSY, the live ones always; every other register, and everything a host cannot
read, stays (R22, R32 to R44, R57). -/
def Obligations.AcceptedWriteReadsBack : Prop :=
  ∀ (s : State) (rest : List Turn) (addr : Nat) (mask v : Word),
    (addr, mask) ∈ gatedRegisters ∧ s.status.state ≠ .running ∧ s.status.busy = false ∨
      (addr, mask) ∈ liveRegisters →
    NextTurn (.host (.write addr 32 v)) rest s →
    ∃ (t : State) (r : Reg), step s = .next t ∧ regAt addr 32 = some r ∧
      readReg t r = v &&& mask ∧
      (∀ q : Reg, q ≠ r → readReg t q = readReg s q) ∧
      t = { scheduled rest s with
        cfg := t.cfg, txLen := t.txLen, rxLen := t.rxLen, cmdv := t.cmdv }

/-- Words and bytes of the buffers are two exact views of the same storage: a host write of word w sets
the bytes 4w .. 4w+3, low byte first, leaves every other byte and register alone, and reads back (R48,
R49, R61). -/
def Obligations.BufferWordsAreBytes : Prop :=
  ∀ (s : State) (rest : List Turn) (v : Word), s.status.state ≠ .running → s.status.busy = false →
    let written (m n : Memory) (w : Nat) : Prop :=
      (∀ j : Fin 4, memRead n (4 * w + j.val) = v.extractLsb' (8 * j.val) 8) ∧
      (∀ k, k < 4 * w ∨ 4 * w + 3 < k → memRead n k = memRead m k)
    (∀ w : Fin 16, s.txbuf.wf Config.txMax = true →
      NextTurn (.host (.write (0x400 + 4 * w.val) 32 v)) rest s → ∃ n : Memory,
      step s = .next { scheduled rest s with txbuf := n } ∧ written s.txbuf n w.val ∧
      readReg { s with txbuf := n } (.txWord w) = v) ∧
    (∀ w : Fin 32, s.rxbuf.wf Config.rxMax = true →
      NextTurn (.host (.write (0x500 + 4 * w.val) 32 v)) rest s → ∃ n : Memory,
      step s = .next { scheduled rest s with rxbuf := n } ∧ written s.rxbuf n w.val ∧
      readReg { s with rxbuf := n } (.rxWord w) = v)

/-- Writing 1 to a W1C bit of STATUS or IP clears it; the other bits, and everything else, are unaffected
(R23, R28). -/
def Obligations.WriteOneClears : Prop :=
  ∀ (s : State) (rest : List Turn) (v : Word),
    (NextTurn (.host (.write 0x008 32 v)) rest s → ∃ t, step s = .next t ∧
      t = { scheduled rest s with status := t.status } ∧
      readReg t .status = readReg s .status &&& ~~~(v &&& 0x00001F00)) ∧
    (NextTurn (.host (.write 0x01C 32 v)) rest s → ∃ t, step s = .next t ∧
      t = { scheduled rest s with ip := t.ip } ∧
      readReg t .ip = readReg s .ip &&& ~~~v)

/-- The interrupt output is 1 exactly when some source is both enabled and pending (R149). -/
def Obligations.IrqIsEnabledPending : Prop :=
  ∀ s : State, irq s = true ↔
    ∃ i : Fin 5, s.cfg.ie.getLsbD i.val = true ∧ s.ip.getLsbD i.val = true

/-! ### Reset -/

/-- What every register reads as after reset, and the hidden state then (R161). -/
def Obligations.ResetValues : Prop :=
  let r := readReg State.reset
  r .id = 0x48500007 ∧ r .ctrl = 0 ∧ r .status = 0 ∧ r .cmd = 0 ∧ r .result = 0 ∧ r .err = 0 ∧
  r .ie = 0 ∧ r .ip = 0 ∧ r .ckerrCnt = 0 ∧ r .cycleCnt = 0 ∧ r .seq = 0 ∧ r .elapsed = 0 ∧
  r .phase = 0 ∧ r .period = 0 ∧ r .kGain = 0 ∧ r .phaseRate = 0 ∧ r .sinAmp = 0x00168000 ∧
  r .sinOff = 0x001E0000 ∧ r .ptrSens = 0 ∧ r .ptrIn = 0 ∧ r .cvtIn = 0 ∧ r .cvtOut = 0 ∧
  r .txLen = 0 ∧ r .rxLen = 0 ∧ r .proto = 0x00001050 ∧ r .layout = 0x00000403 ∧
  r .layout2 = 0x00000001 ∧
  (∀ ch, r (.setpoint ch) = 0 ∧ r (.tgt ch) = 0 ∧ r (.cmdv ch) = 0 ∧ r (.fbPos ch) = 0 ∧
    r (.fbVel ch) = 0 ∧ r (.fbCur ch) = 0 ∧ r (.rawPV ch) = 0 ∧ r (.rawC ch) = 0) ∧
  (∀ i, r (.touch i) = 0) ∧ (∀ w, r (.txWord w) = 0) ∧ (∀ w, r (.rxWord w) = 0) ∧
  State.reset.pending = none ∧ State.reset.t0 = 0 ∧ State.reset.ta = 0 ∧
  State.reset.xfer = .none ∧ State.reset.oneShot = false ∧ State.reset.afterClose = .stopped ∧
  irq State.reset = false

/-- Hardware reset: while the reset input is asserted a host read returns 0, a host write, an Engine turn
and a Transport answer change nothing in the block, the Clock's turn moves its reading alone, and on the
input's release the whole block holds its reset values, whatever it held before (R160, R161). The Clock never
decreases (R8); that the value comes with the Clock's turn, and that a smaller one is ignored, is the model's
form of that (DESIGN CHOICE, entry 3). The turn that asserts the input leaves it asserted; that the block
holds its reset values from then on, and that a release of an input not asserted changes nothing, is the
model's reading (entry 14). -/
def Obligations.HardwareReset : Prop :=
  ∀ (s : State) (rest : List Turn),
    let u := scheduled rest s
    (s.env.resetPin = true →
      (∀ addr width, s.env.agenda = .host (.read addr width) :: rest →
        step s = .next { u with env := { u.env with busOut := 0 } }) ∧
      (∀ addr width v, s.env.agenda = .host (.write addr width v) :: rest → step s = .next u) ∧
      (s.env.agenda = .engine :: rest → step s = .next u) ∧
      (∀ a, s.env.agenda = .transport a :: rest → step s = .next u) ∧
      (∀ x : Ticks, s.env.agenda = .clock x :: rest →
        (s.env.now.toNat ≤ x.toNat → step s = .next { u with env := { u.env with now := x } }) ∧
        (x.toNat < s.env.now.toNat → step s = .next u)) ∧
      (s.env.agenda = .resetPin false :: rest →
        step s = .next { State.reset with env := { u.env with resetPin := false } })) ∧
    (s.env.agenda = .resetPin true :: rest →
      step s = .next { State.reset with env := { u.env with resetPin := true } }) ∧
    (NextTurn (.resetPin false) rest s → step s = .next u)

/-! ### Invariants and whole-machine rules -/

/-- The invariant holds at reset. -/
def Obligations.InvAtReset : Prop := Inv State.reset

/-- Every step keeps the invariant: canonical buffers, BUSY with PENDING, LINK with the state, the
sequencer's place, the request in flight with the command that made it, the configuration checks throughout
a cycle and the bound of RX_LEN where a stage reads it (in a CYCLE1 cycle in VOLT_CL mode by entry 22), a
sealed frame in TXBUF at stage EXCHANGE, the fatal record in STOPPED only, the Clock (the model's
own field, entry 3) not before its readings. -/
def Obligations.StepKeepsInv : Prop :=
  ∀ s t : State, Inv s → step s = .next t → Inv t

/-- From a state of the invariant no step stops: every fault of the model is out of reach. -/
def Obligations.InvStatesProceed : Prop := ∀ s : State, Inv s → Proceeds s

/-- The loop state changes only along the transitions of R125, each for its own cause: INIT and its answer,
START, STOP and the answer to CLOSE, a fatal error of CYCLE1, the boundary's CLOSE or a fatal error in
RUNNING, RESET in STOPPED or, by the answer to CLOSE, in INITIALIZED, and a hardware reset. -/
def Obligations.StateTransitions : Prop :=
  ∀ s t : State, Inv s → step s = .next t →
    t.status.state = s.status.state ∨
    s.status.state = .idle ∧ s.xfer = .opening ∧ s.pending = some 0x50 ∧
      (t.status.state = .initialized ∧ t.err.cmdErr = .none ∨
        t.status.state = .stopped ∧ (t.err.fatalCode = .openFail ∨ t.err.fatalCode = .initFail)) ∨
    s.status.state = .initialized ∧ t.status.state = .running ∧ s.pending = some 0x51 ∨
    s.status.state = .initialized ∧ t.status.state = .stopped ∧
      (s.xfer = .closing ∧ s.afterClose = .stopped ∧ s.pending = some 0x52 ∨
        s.oneShot = true ∧ s.pending = some 0x54 ∧
          ((∃ tx, s.xfer = .exchange tx) ∧ t.err.fatalCode = .exchangeFail ∨
            s.status.stage = .decode ∧ t.err.fatalCode = .unpack)) ∨
    s.status.state = .running ∧ t.status.state = .stopped ∧
      (s.xfer = .closing ∧ s.status.stopReq = true ∨
        (∃ tx, s.xfer = .exchange tx) ∧ t.err.fatalCode = .exchangeFail ∨
        s.status.stage = .decode ∧ t.err.fatalCode = .unpack) ∨
    s.status.state = .stopped ∧ t.status.state = .idle ∧ s.pending = some 0x53 ∨
    s.status.state = .initialized ∧ t.status.state = .idle ∧ s.xfer = .closing ∧
      s.afterClose = .idle ∧ s.pending = some 0x53 ∨
    IsHardwareReset s t

/-- The feedback registers are written only by a decode, which publishes the decoded contents of RXBUF and
counts the snapshot in SEQ in the same step, or are cleared together with SEQ (R45, R64, R142, R160). -/
def Obligations.FeedbackOnlyByDecode : Prop :=
  ∀ s t : State, step s = .next t →
    t.fb = s.fb ∧ t.seq = s.seq ∨ t.fb = decodedFeedback t ∧ t.seq = s.seq + 1 ∨
      t.fb = Feedback.reset ∧ t.seq = 0

/-- While a cycle is in progress no step but a hardware reset changes a gated configuration register (those
of `Settings`; the stages themselves write CMDV, TX_LEN, RX_LEN and the buffers), and TX_LEN changes only to
the 17 of a motion frame, never in RAW mode (R57, R103, R133). -/
def Obligations.ConfigurationHeldInCycle : Prop :=
  ∀ s t : State, Inv s → cycleActive s → step s = .next t →
    IsHardwareReset s t ∨
    t.cfg = { s.cfg with
      cmd := t.cfg.cmd, ie := t.cfg.ie, ptrIn := t.cfg.ptrIn, setpoint := t.cfg.setpoint } ∧
    (s.cfg.ctrl.extractLsb' 0 2 = 3#2 → t.txLen = s.txLen) ∧
    (s.cfg.ctrl.extractLsb' 0 2 ≠ 3#2 → t.txLen = s.txLen ∨ s.status.stage = .encode ∧ t.txLen = 17)

/-- After a fatal error the block stays in STOPPED with its fatal record until a RESET or a hardware reset
returns it to IDLE (R26, R148). -/
def Obligations.FatalRecordStays : Prop :=
  ∀ s t : State, Inv s → s.err.fatalCode ≠ .none → step s = .next t →
    t.status.state = .stopped ∧ t.err.fatalCode = s.err.fatalCode ∧
      t.err.fatalStage = s.err.fatalStage ∨
    t.status.state = .idle ∧ s.pending = some 0x53 ∨ IsHardwareReset s t

/-- Every frame handed to the Transport is a sealed frame of 5 to 64 bytes: its first byte is its length,
its payload sum and its whole sum are 0 mod 256, and it validates (R80, R88, R134). -/
def Obligations.FramesSentValidate : Prop :=
  ∀ (s t : State) (tx : List Byte), Inv s → step s = .next t → s.xfer = .none →
    t.xfer = .exchange tx → tx.length ≤ 64 ∧ Sealed (fun k => tx.getD k 0) tx.length
end

