-- ==== Sys2Proof/Laws/Memory.lean ====
section
/-! SUPPORT. The laws of the frame buffers: reading after writing, and that every operation keeps the
canonical form. -/

namespace Sys2Proof.Machine

@[simp] theorem memRead_nil (k : Nat) : memRead [] k = blankByte := rfl

theorem memRead_cons (a : Nat) (b : Byte) (m : Memory) (k : Nat) :
    memRead ((a, b) :: m) k = if a = k then b else memRead m k := rfl

@[simp] theorem memWfFrom_nil (size lo : Nat) : memWfFrom size lo [] = true := rfl

theorem memWfFrom_cons {size lo a : Nat} {b : Byte} {m : Memory} :
    memWfFrom size lo ((a, b) :: m) = true ↔
      lo ≤ a ∧ a < size ∧ b ≠ blankByte ∧ memWfFrom size (a + 1) m = true := by
  simp [memWfFrom, and_assoc]

/-- A canonical form from `lo` on is one from any lower index on. -/
theorem memWfFrom_mono {size lo lo' : Nat} {m : Memory} (h : memWfFrom size lo m = true)
    (hl : lo' ≤ lo) : memWfFrom size lo' m = true := by
  cases m with
  | nil => rfl
  | cons c m =>
    obtain ⟨a, b⟩ := c
    obtain ⟨h1, h2, h3, h4⟩ := memWfFrom_cons.mp h
    exact memWfFrom_cons.mpr ⟨by omega, h2, h3, h4⟩

/-- Below the first index of a canonical form every byte reads as unlisted. -/
theorem memRead_of_lt {size lo k : Nat} {m : Memory} (h : memWfFrom size lo m = true) (hk : k < lo) :
    memRead m k = blankByte := by
  induction m generalizing lo with
  | nil => rfl
  | cons c m ih =>
    obtain ⟨a, b⟩ := c
    obtain ⟨h1, -, -, h4⟩ := memWfFrom_cons.mp h
    rw [memRead_cons, if_neg (by omega)]
    exact ih h4 (by omega)

/-- Beyond the buffer a canonical form lists nothing. -/
theorem memRead_of_size_le {size lo k : Nat} {m : Memory} (h : memWfFrom size lo m = true)
    (hk : size ≤ k) : memRead m k = blankByte := by
  induction m generalizing lo with
  | nil => rfl
  | cons c m ih =>
    obtain ⟨a, b⟩ := c
    obtain ⟨-, h2, -, h4⟩ := memWfFrom_cons.mp h
    rw [memRead_cons, if_neg (by omega)]
    exact ih h4

/-! ### One byte -/

theorem memRead_memCons_of_ne {m : Memory} {k j : Nat} {b : Byte} (h : j ≠ k) :
    memRead (memCons k b m) j = memRead m j := by
  unfold memCons
  split
  · rfl
  · rw [memRead_cons, if_neg (fun e => h e.symm)]

theorem memRead_memCons_self {size lo : Nat} {m : Memory} {k : Nat} {b : Byte}
    (h : memWfFrom size lo m = true) (hk : k < lo) : memRead (memCons k b m) k = b := by
  unfold memCons
  split
  · next hb => rw [memRead_of_lt h hk, hb]
  · rw [memRead_cons, if_pos rfl]

theorem memCons_wf {size lo k : Nat} {m : Memory} {b : Byte} (h : memWfFrom size (k + 1) m = true)
    (hl : lo ≤ k) (hk : k < size) : memWfFrom size lo (memCons k b m) = true := by
  unfold memCons
  split
  · exact memWfFrom_mono h (by omega)
  · next hb => exact memWfFrom_cons.mpr ⟨hl, hk, hb, h⟩

/-- Writing one byte leaves every other byte alone. -/
theorem memRead_memWrite_of_ne {m : Memory} {k j : Nat} {b : Byte} (h : j ≠ k) :
    memRead (memWrite m k b) j = memRead m j := by
  induction m with
  | nil => exact memRead_memCons_of_ne h
  | cons c m ih =>
    obtain ⟨a, c⟩ := c
    unfold memWrite
    split
    · exact memRead_memCons_of_ne h
    · split
      · next hka => rw [memRead_memCons_of_ne h, memRead_cons, if_neg (by omega)]
      · rw [memRead_cons, memRead_cons, ih]

/-- A byte reads as it was written. -/
theorem memRead_memWrite_self {size lo : Nat} {m : Memory} {k : Nat} {b : Byte}
    (h : memWfFrom size lo m = true) : memRead (memWrite m k b) k = b := by
  induction m generalizing lo with
  | nil => exact memRead_memCons_self (size := size) (lo := k + 1) rfl (by omega)
  | cons c m ih =>
    obtain ⟨a, c⟩ := c
    obtain ⟨-, h2, h3, h4⟩ := memWfFrom_cons.mp h
    unfold memWrite
    split
    · next hka =>
      exact memRead_memCons_self (memWfFrom_cons.mpr ⟨Nat.le_refl a, h2, h3, h4⟩) hka
    · split
      · next hka => subst hka; exact memRead_memCons_self h4 (by omega)
      · rw [memRead_cons, if_neg (by omega), ih h4]

/-- What a byte reads after one byte was written. -/
theorem memRead_memWrite {size lo : Nat} {m : Memory} {k j : Nat} {b : Byte}
    (h : memWfFrom size lo m = true) :
    memRead (memWrite m k b) j = if j = k then b else memRead m j := by
  split
  · next e => subst e; exact memRead_memWrite_self h
  · next e => exact memRead_memWrite_of_ne e

theorem memWrite_wfFrom {size lo : Nat} {m : Memory} {k : Nat} {b : Byte}
    (h : memWfFrom size lo m = true) (hl : lo ≤ k) (hk : k < size) :
    memWfFrom size lo (memWrite m k b) = true := by
  induction m generalizing lo with
  | nil => exact memCons_wf rfl hl hk
  | cons c m ih =>
    obtain ⟨a, c⟩ := c
    obtain ⟨h1, h2, h3, h4⟩ := memWfFrom_cons.mp h
    unfold memWrite
    split
    · exact memCons_wf (memWfFrom_cons.mpr ⟨by omega, h2, h3, h4⟩) hl hk
    · split
      · next hka => subst hka; exact memCons_wf h4 hl hk
      · exact memWfFrom_cons.mpr ⟨h1, h2, h3, ih h4 (by omega)⟩

/-- Writing a byte of the buffer keeps the canonical form. -/
theorem memWrite_wf {size : Nat} {m : Memory} {k : Nat} {b : Byte} (h : m.wf size = true)
    (hk : k < size) : (memWrite m k b).wf size = true :=
  memWrite_wfFrom h (Nat.zero_le k) hk

/-! ### Many bytes -/

theorem memWriteBytes_wf {size : Nat} {bs : List Byte} {m : Memory} {k : Nat} (h : m.wf size = true)
    (hk : k + bs.length ≤ size) : (memWriteBytes m k bs).wf size = true := by
  induction bs generalizing m k with
  | nil => exact h
  | cons b bs ih =>
    rw [List.length_cons] at hk
    exact ih (memWrite_wf h (by omega)) (by omega)

theorem memRead_memWriteBytes {size : Nat} {bs : List Byte} {m : Memory} {k j : Nat}
    (h : m.wf size = true) (hk : k + bs.length ≤ size) :
    memRead (memWriteBytes m k bs) j =
      if k ≤ j ∧ j < k + bs.length then bs.getD (j - k) 0 else memRead m j := by
  induction bs generalizing m k with
  | nil => rw [if_neg (by simp)]; rfl
  | cons b bs ih =>
    rw [List.length_cons] at hk ⊢
    show memRead (memWriteBytes (memWrite m k b) (k + 1) bs) j = _
    rw [ih (memWrite_wf h (by omega)) (by omega), memRead_memWrite h]
    by_cases hj : j = k
    · subst hj
      rw [if_neg (by omega), if_pos rfl, if_pos (by omega), Nat.sub_self, List.getD_cons_zero]
    · rw [if_neg hj]
      by_cases hr : k + 1 ≤ j ∧ j < k + 1 + bs.length
      · rw [if_pos hr, if_pos (by omega), show j - k = (j - (k + 1)) + 1 by omega,
          List.getD_cons_succ]
      · rw [if_neg hr, if_neg (by omega)]

theorem memOfBytes_wfFrom {size : Nat} {bs : List Byte} {k : Nat} (hk : k + bs.length ≤ size) :
    memWfFrom size k (memOfBytes k bs) = true := by
  induction bs generalizing k with
  | nil => rfl
  | cons b bs ih =>
    rw [List.length_cons] at hk
    exact memCons_wf (ih (by omega)) (Nat.le_refl k) (by omega)

/-- Filling a buffer gives the canonical form. -/
theorem memOfBytes_wf {size : Nat} {bs : List Byte} (h : bs.length ≤ size) :
    (memOfBytes 0 bs).wf size = true :=
  memOfBytes_wfFrom (by omega)

theorem memRead_memOfBytes {bs : List Byte} {k j : Nat} :
    memRead (memOfBytes k bs) j = if k ≤ j then bs.getD (j - k) 0 else 0 := by
  induction bs generalizing k with
  | nil => split <;> simp [memOfBytes, blankByte]
  | cons b bs ih =>
    have hw : memWfFrom (k + 1 + bs.length) (k + 1) (memOfBytes (k + 1) bs) = true :=
      memOfBytes_wfFrom (Nat.le_refl _)
    show memRead (memCons k b (memOfBytes (k + 1) bs)) j = _
    by_cases hj : j = k
    · subst hj
      rw [memRead_memCons_self hw (by omega), if_pos (Nat.le_refl j), Nat.sub_self,
        List.getD_cons_zero]
    · rw [memRead_memCons_of_ne hj, ih]
      by_cases hr : k + 1 ≤ j
      · rw [if_pos hr, if_pos (by omega), show j - k = (j - (k + 1)) + 1 by omega,
          List.getD_cons_succ]
      · rw [if_neg hr, if_neg (by omega)]

@[simp] theorem bytesFrom_length (f : Nat → Byte) (k n : Nat) : (bytesFrom f k n).length = n := by
  induction n generalizing k with
  | zero => rfl
  | succ n ih => simp [bytesFrom, ih]

theorem bytesFrom_congr {f g : Nat → Byte} {k n : Nat}
    (h : ∀ j, k ≤ j → j < k + n → f j = g j) : bytesFrom f k n = bytesFrom g k n := by
  induction n generalizing k with
  | zero => rfl
  | succ n ih =>
    show f k :: _ = g k :: _
    rw [h k (Nat.le_refl k) (by omega), ih fun j h1 h2 => h j (by omega) (by omega)]

/-! ### The buffers of a state -/

theorem txByte_of_lt {s : State} {k : Nat} (h : k < Config.txMax) : txByte s k = memRead s.txbuf k :=
  if_pos h

theorem rxByte_of_lt {s : State} {k : Nat} (h : k < Config.rxMax) : rxByte s k = memRead s.rxbuf k :=
  if_pos h

/-- Both buffers of the reset state are in canonical form. -/
theorem reset_buffers_wf :
    State.reset.txbuf.wf Config.txMax = true ∧ State.reset.rxbuf.wf Config.rxMax = true :=
  ⟨rfl, rfl⟩

end Sys2Proof.Machine
end

