-- ==== Sys2Proof/Laws/PerInstr.lean ====
section
/-! SUPPORT. Statements about every instruction as syntax, one lemma per constructor. The family
MatchMask says that an instruction's command word carries its opcode-table match under its mask. -/

namespace Sys2Proof.Laws.MatchMask

/-- The command word of a well-formed instruction matches its row of the opcode table
(`30_encoding.md` R72). -/
def Statement (i : Instr) : Prop := i.WellFormed → encode i &&& (matchMask i).2 = (matchMask i).1

/-- Bits 15..9 and 31..24 and the opcode of a format B word do not depend on its operands. -/
theorem wordB_mask (opc : Word) (h : opc &&& 0xFF00FEFF = opc) (b : Buf) (len : Nat)
    (hl : len < 256) : wordB opc b len &&& 0xFF00FEFF = opc := by
  have hpair : ∀ a b : Fin 16,
      (BitVec.ofNat 32 (16 * a.val + b.val) <<< 16) &&& (0xFF00FEFF : Word) = 0 := by decide
  have hlen : (BitVec.ofNat 32 len <<< 16) &&& (0xFF00FEFF : Word) = 0 := by
    have e := hpair ⟨len / 16, by omega⟩ ⟨len % 16, by omega⟩
    rwa [Nat.div_add_mod] at e
  have hbuf : (b.bit <<< 8) &&& (0xFF00FEFF : Word) = 0 := by cases b <;> decide
  have h0 : opc ||| (0 : Word) = opc := BitVec.or_zero
  rw [wordB, BitVec.and_or_distrib_right, BitVec.and_or_distrib_right, h, hbuf, hlen, h0, h0]

/-- Bits 31..11 and the opcode of a format C word do not depend on its operand. -/
theorem wordC_mask (opc : Word) (h : opc &&& 0xFFFFF8FF = opc) (ch : Nat) (hc : ch < 8) :
    wordC opc ch &&& 0xFFFFF8FF = opc := by
  have hch : ∀ n : Fin 8, (BitVec.ofNat 32 n.val <<< 8) &&& (0xFFFFF8FF : Word) = 0 := by decide
  have h0 : opc ||| (0 : Word) = opc := BitVec.or_zero
  rw [wordC, BitVec.and_or_distrib_right, h, hch ⟨ch, hc⟩, h0]

theorem nop : Statement .nop := fun _ => by decide

theorem encpos : Statement .encpos := fun _ => by decide

theorem encvolt : Statement .encvolt := fun _ => by decide

theorem encraw : Statement .encraw := fun _ => by decide

theorem decode : Statement .decode := fun _ => by decide

theorem cvtd2r : Statement .cvtd2r := fun _ => by decide

theorem cvtr2d : Statement .cvtr2d := fun _ => by decide

theorem cvtc2p : Statement .cvtc2p := fun _ => by decide

theorem gen : Statement .gen := fun _ => by decide

theorem ctlaw : Statement .ctlaw := fun _ => by decide

theorem init : Statement .init := fun _ => by decide

theorem start : Statement .start := fun _ => by decide

theorem stop : Statement .stop := fun _ => by decide

theorem reset : Statement .reset := fun _ => by decide

theorem cycle1 : Statement .cycle1 := fun _ => by decide

theorem cksump (buf : Buf) (len : Nat) : Statement (.cksump buf len) := fun h =>
  wordB_mask _ (by decide) buf len (of_decide_eq_true h)

theorem cksumf (buf : Buf) (len : Nat) : Statement (.cksumf buf len) := fun h =>
  wordB_mask _ (by decide) buf len (of_decide_eq_true h)

theorem valid (buf : Buf) (len : Nat) : Statement (.valid buf len) := fun h =>
  wordB_mask _ (by decide) buf len (of_decide_eq_true h)

theorem cvtv2e (ch : Nat) : Statement (.cvtv2e ch) := fun h =>
  wordC_mask _ (by decide) ch (of_decide_eq_true h)

end Sys2Proof.Laws.MatchMask
end

