-- ==== Sys2Proof/Laws/Safety.lean ====
section
/-! SUPPORT. The invariant as a check that runs on a concrete state. -/

namespace Sys2Proof.Machine

/-- The invariant's clause on the request in flight. -/
def xferCheck (s : State) : Bool :=
  match s.xfer with
  | .none => true
  | .opening => decide (s.status.state = .idle ∧ s.pending = some 0x50 ∧ s.oneShot = false)
  | .exchange tx => decide (cycleActive s ∧ s.status.stage = .exchange ∧
      tx = bytesFrom (memRead s.txbuf) 0 s.txLen.toNat)
  | .closing => !s.oneShot &&
      (decide (s.status.state = .initialized ∧ s.pending = some 0x52 ∧ s.afterClose = .stopped) ||
        decide (s.status.state = .initialized ∧ s.pending = some 0x53 ∧ s.afterClose = .idle) ||
        decide (s.status.state = .running ∧ s.status.stage = .boundary ∧ s.status.stopReq = true ∧
          s.afterClose = .stopped))

/-- The invariant's clauses on the flags and on the records. -/
def statusCheck (s : State) : Bool :=
  decide (s.status.busy = s.pending.isSome) &&
  decide (s.status.link = true ↔ s.status.state = .initialized ∨ s.status.state = .running) &&
  decide (s.status.stopReq = true → s.status.state = .running) &&
  decide (¬ cycleActive s → s.status.stage = .boundary) &&
  decide (s.err.fatalCode ≠ .none → s.status.state = .stopped) &&
  decide (s.t0.toNat ≤ s.env.now.toNat ∧ s.ta.toNat ≤ s.env.now.toNat)

/-- The invariant's clauses on a cycle in progress and on the buffers. -/
def cycleCheck (s : State) : Bool :=
  decide (s.oneShot = true → s.status.state = .initialized ∧ s.pending = some 0x54 ∧
    s.status.stage ≠ .boundary ∧ s.status.stage ≠ .pace) &&
  decide (cycleActive s → configOk s = true) &&
  decide (cycleActive s → s.status.stage = .exchange →
    s.txLen.toNat ≤ Config.txMax ∧ Sealed (memRead s.txbuf) s.txLen.toNat) &&
  decide (s.status.state = .running ∨
      s.oneShot = true ∧ (s.cfg.ctrl.extractLsb' 0 2 = 2#2 ∨ s.status.stage = .decode) →
    s.rxLen.toNat ≤ Config.rxMax) &&
  s.txbuf.wf Config.txMax && s.rxbuf.wf Config.rxMax

/-- A state that passes the check meets the invariant. -/
theorem inv_of_check {s : State} (hx : xferCheck s = true) (hs : statusCheck s = true)
    (hc : cycleCheck s = true) : Inv s := by
  simp only [statusCheck, Bool.and_eq_true, decide_eq_true_eq] at hs
  simp only [cycleCheck, Bool.and_eq_true, decide_eq_true_eq] at hc
  obtain ⟨⟨⟨⟨⟨busy, link⟩, stopReq⟩, stage⟩, fatal⟩, clock⟩ := hs
  obtain ⟨⟨⟨⟨⟨oneShot, config⟩, frame⟩, rxLen⟩, txWf⟩, rxWf⟩ := hc
  have opening (h : s.xfer = .opening) :
      s.status.state = .idle ∧ s.pending = some 0x50 ∧ s.oneShot = false := by
    simpa [xferCheck, h] using hx
  have exchange (tx : List Byte) (h : s.xfer = .exchange tx) : cycleActive s ∧
      s.status.stage = .exchange ∧ tx = bytesFrom (memRead s.txbuf) 0 s.txLen.toNat := by
    simpa [xferCheck, h] using hx
  have closing (h : s.xfer = .closing) : s.oneShot = false ∧
      (s.status.state = .initialized ∧ s.pending = some 0x52 ∧ s.afterClose = .stopped ∨
        s.status.state = .initialized ∧ s.pending = some 0x53 ∧ s.afterClose = .idle ∨
        s.status.state = .running ∧ s.status.stage = .boundary ∧ s.status.stopReq = true ∧
          s.afterClose = .stopped) := by
    simpa [xferCheck, h, or_assoc] using hx
  exact { txWf, rxWf, busy, link, stopReq, stage, oneShot, opening, exchange, closing, config, frame,
          rxLen, fatal, clock }

end Sys2Proof.Machine
end

