-- ==== Sys2Proof/Laws/State.lean ====
section
/-! SUPPORT. One lemma for each field of State and each named update: what the field holds after the
update. -/

namespace Sys2Proof.Machine

/-! ### setValid -/

@[simp] theorem setValid_cfg (v : Bool) (s : State) : (setValid v s).cfg = s.cfg := rfl

@[simp] theorem setValid_status (v : Bool) (s : State) :
    (setValid v s).status = { s.status with valid := v } := rfl

@[simp] theorem setValid_err (v : Bool) (s : State) : (setValid v s).err = s.err := rfl

@[simp] theorem setValid_ip (v : Bool) (s : State) : (setValid v s).ip = s.ip := rfl

@[simp] theorem setValid_result (v : Bool) (s : State) : (setValid v s).result = s.result := rfl

@[simp] theorem setValid_ckerrCnt (v : Bool) (s : State) :
    (setValid v s).ckerrCnt = s.ckerrCnt := rfl

@[simp] theorem setValid_cycleCnt (v : Bool) (s : State) :
    (setValid v s).cycleCnt = s.cycleCnt := rfl

@[simp] theorem setValid_seq (v : Bool) (s : State) : (setValid v s).seq = s.seq := rfl

@[simp] theorem setValid_elapsed (v : Bool) (s : State) : (setValid v s).elapsed = s.elapsed := rfl

@[simp] theorem setValid_phase (v : Bool) (s : State) : (setValid v s).phase = s.phase := rfl

@[simp] theorem setValid_cvtOut (v : Bool) (s : State) : (setValid v s).cvtOut = s.cvtOut := rfl

@[simp] theorem setValid_txLen (v : Bool) (s : State) : (setValid v s).txLen = s.txLen := rfl

@[simp] theorem setValid_rxLen (v : Bool) (s : State) : (setValid v s).rxLen = s.rxLen := rfl

@[simp] theorem setValid_tgt (v : Bool) (s : State) : (setValid v s).tgt = s.tgt := rfl

@[simp] theorem setValid_cmdv (v : Bool) (s : State) : (setValid v s).cmdv = s.cmdv := rfl

@[simp] theorem setValid_fb (v : Bool) (s : State) : (setValid v s).fb = s.fb := rfl

@[simp] theorem setValid_txbuf (v : Bool) (s : State) : (setValid v s).txbuf = s.txbuf := rfl

@[simp] theorem setValid_rxbuf (v : Bool) (s : State) : (setValid v s).rxbuf = s.rxbuf := rfl

@[simp] theorem setValid_pending (v : Bool) (s : State) : (setValid v s).pending = s.pending := rfl

@[simp] theorem setValid_t0 (v : Bool) (s : State) : (setValid v s).t0 = s.t0 := rfl

@[simp] theorem setValid_ta (v : Bool) (s : State) : (setValid v s).ta = s.ta := rfl

@[simp] theorem setValid_xfer (v : Bool) (s : State) : (setValid v s).xfer = s.xfer := rfl

@[simp] theorem setValid_oneShot (v : Bool) (s : State) : (setValid v s).oneShot = s.oneShot := rfl

@[simp] theorem setValid_afterClose (v : Bool) (s : State) :
    (setValid v s).afterClose = s.afterClose := rfl

@[simp] theorem setValid_env (v : Bool) (s : State) : (setValid v s).env = s.env := rfl

/-! ### setStage -/

@[simp] theorem setStage_cfg (g : Stage) (s : State) : (setStage g s).cfg = s.cfg := rfl

@[simp] theorem setStage_status (g : Stage) (s : State) :
    (setStage g s).status = { s.status with stage := g } := rfl

@[simp] theorem setStage_err (g : Stage) (s : State) : (setStage g s).err = s.err := rfl

@[simp] theorem setStage_ip (g : Stage) (s : State) : (setStage g s).ip = s.ip := rfl

@[simp] theorem setStage_result (g : Stage) (s : State) : (setStage g s).result = s.result := rfl

@[simp] theorem setStage_ckerrCnt (g : Stage) (s : State) :
    (setStage g s).ckerrCnt = s.ckerrCnt := rfl

@[simp] theorem setStage_cycleCnt (g : Stage) (s : State) :
    (setStage g s).cycleCnt = s.cycleCnt := rfl

@[simp] theorem setStage_seq (g : Stage) (s : State) : (setStage g s).seq = s.seq := rfl

@[simp] theorem setStage_elapsed (g : Stage) (s : State) : (setStage g s).elapsed = s.elapsed := rfl

@[simp] theorem setStage_phase (g : Stage) (s : State) : (setStage g s).phase = s.phase := rfl

@[simp] theorem setStage_cvtOut (g : Stage) (s : State) : (setStage g s).cvtOut = s.cvtOut := rfl

@[simp] theorem setStage_txLen (g : Stage) (s : State) : (setStage g s).txLen = s.txLen := rfl

@[simp] theorem setStage_rxLen (g : Stage) (s : State) : (setStage g s).rxLen = s.rxLen := rfl

@[simp] theorem setStage_tgt (g : Stage) (s : State) : (setStage g s).tgt = s.tgt := rfl

@[simp] theorem setStage_cmdv (g : Stage) (s : State) : (setStage g s).cmdv = s.cmdv := rfl

@[simp] theorem setStage_fb (g : Stage) (s : State) : (setStage g s).fb = s.fb := rfl

@[simp] theorem setStage_txbuf (g : Stage) (s : State) : (setStage g s).txbuf = s.txbuf := rfl

@[simp] theorem setStage_rxbuf (g : Stage) (s : State) : (setStage g s).rxbuf = s.rxbuf := rfl

@[simp] theorem setStage_pending (g : Stage) (s : State) : (setStage g s).pending = s.pending := rfl

@[simp] theorem setStage_t0 (g : Stage) (s : State) : (setStage g s).t0 = s.t0 := rfl

@[simp] theorem setStage_ta (g : Stage) (s : State) : (setStage g s).ta = s.ta := rfl

@[simp] theorem setStage_xfer (g : Stage) (s : State) : (setStage g s).xfer = s.xfer := rfl

@[simp] theorem setStage_oneShot (g : Stage) (s : State) : (setStage g s).oneShot = s.oneShot := rfl

@[simp] theorem setStage_afterClose (g : Stage) (s : State) :
    (setStage g s).afterClose = s.afterClose := rfl

@[simp] theorem setStage_env (g : Stage) (s : State) : (setStage g s).env = s.env := rfl

/-! ### complete -/

@[simp] theorem complete_cfg (c : ErrCode) (s : State) : (complete c s).cfg = s.cfg := rfl

@[simp] theorem complete_status (c : ErrCode) (s : State) :
    (complete c s).status = { s.status with busy := false } := rfl

@[simp] theorem complete_err (c : ErrCode) (s : State) :
    (complete c s).err = { s.err with cmdErr := c } := rfl

@[simp] theorem complete_ip (c : ErrCode) (s : State) :
    (complete c s).ip = s.ip ||| ipCmdDone := rfl

@[simp] theorem complete_result (c : ErrCode) (s : State) : (complete c s).result = s.result := rfl

@[simp] theorem complete_ckerrCnt (c : ErrCode) (s : State) :
    (complete c s).ckerrCnt = s.ckerrCnt := rfl

@[simp] theorem complete_cycleCnt (c : ErrCode) (s : State) :
    (complete c s).cycleCnt = s.cycleCnt := rfl

@[simp] theorem complete_seq (c : ErrCode) (s : State) : (complete c s).seq = s.seq := rfl

@[simp] theorem complete_elapsed (c : ErrCode) (s : State) :
    (complete c s).elapsed = s.elapsed := rfl

@[simp] theorem complete_phase (c : ErrCode) (s : State) : (complete c s).phase = s.phase := rfl

@[simp] theorem complete_cvtOut (c : ErrCode) (s : State) : (complete c s).cvtOut = s.cvtOut := rfl

@[simp] theorem complete_txLen (c : ErrCode) (s : State) : (complete c s).txLen = s.txLen := rfl

@[simp] theorem complete_rxLen (c : ErrCode) (s : State) : (complete c s).rxLen = s.rxLen := rfl

@[simp] theorem complete_tgt (c : ErrCode) (s : State) : (complete c s).tgt = s.tgt := rfl

@[simp] theorem complete_cmdv (c : ErrCode) (s : State) : (complete c s).cmdv = s.cmdv := rfl

@[simp] theorem complete_fb (c : ErrCode) (s : State) : (complete c s).fb = s.fb := rfl

@[simp] theorem complete_txbuf (c : ErrCode) (s : State) : (complete c s).txbuf = s.txbuf := rfl

@[simp] theorem complete_rxbuf (c : ErrCode) (s : State) : (complete c s).rxbuf = s.rxbuf := rfl

@[simp] theorem complete_pending (c : ErrCode) (s : State) : (complete c s).pending = none := rfl

@[simp] theorem complete_t0 (c : ErrCode) (s : State) : (complete c s).t0 = s.t0 := rfl

@[simp] theorem complete_ta (c : ErrCode) (s : State) : (complete c s).ta = s.ta := rfl

@[simp] theorem complete_xfer (c : ErrCode) (s : State) : (complete c s).xfer = s.xfer := rfl

@[simp] theorem complete_oneShot (c : ErrCode) (s : State) :
    (complete c s).oneShot = s.oneShot := rfl

@[simp] theorem complete_afterClose (c : ErrCode) (s : State) :
    (complete c s).afterClose = s.afterClose := rfl

@[simp] theorem complete_env (c : ErrCode) (s : State) : (complete c s).env = s.env := rfl

/-! ### request -/

@[simp] theorem request_cfg (x : Xfer) (s : State) : (request x s).cfg = s.cfg := rfl

@[simp] theorem request_status (x : Xfer) (s : State) : (request x s).status = s.status := rfl

@[simp] theorem request_err (x : Xfer) (s : State) : (request x s).err = s.err := rfl

@[simp] theorem request_ip (x : Xfer) (s : State) : (request x s).ip = s.ip := rfl

@[simp] theorem request_result (x : Xfer) (s : State) : (request x s).result = s.result := rfl

@[simp] theorem request_ckerrCnt (x : Xfer) (s : State) : (request x s).ckerrCnt = s.ckerrCnt := rfl

@[simp] theorem request_cycleCnt (x : Xfer) (s : State) : (request x s).cycleCnt = s.cycleCnt := rfl

@[simp] theorem request_seq (x : Xfer) (s : State) : (request x s).seq = s.seq := rfl

@[simp] theorem request_elapsed (x : Xfer) (s : State) : (request x s).elapsed = s.elapsed := rfl

@[simp] theorem request_phase (x : Xfer) (s : State) : (request x s).phase = s.phase := rfl

@[simp] theorem request_cvtOut (x : Xfer) (s : State) : (request x s).cvtOut = s.cvtOut := rfl

@[simp] theorem request_txLen (x : Xfer) (s : State) : (request x s).txLen = s.txLen := rfl

@[simp] theorem request_rxLen (x : Xfer) (s : State) : (request x s).rxLen = s.rxLen := rfl

@[simp] theorem request_tgt (x : Xfer) (s : State) : (request x s).tgt = s.tgt := rfl

@[simp] theorem request_cmdv (x : Xfer) (s : State) : (request x s).cmdv = s.cmdv := rfl

@[simp] theorem request_fb (x : Xfer) (s : State) : (request x s).fb = s.fb := rfl

@[simp] theorem request_txbuf (x : Xfer) (s : State) : (request x s).txbuf = s.txbuf := rfl

@[simp] theorem request_rxbuf (x : Xfer) (s : State) : (request x s).rxbuf = s.rxbuf := rfl

@[simp] theorem request_pending (x : Xfer) (s : State) : (request x s).pending = s.pending := rfl

@[simp] theorem request_t0 (x : Xfer) (s : State) : (request x s).t0 = s.t0 := rfl

@[simp] theorem request_ta (x : Xfer) (s : State) : (request x s).ta = s.ta := rfl

@[simp] theorem request_xfer (x : Xfer) (s : State) : (request x s).xfer = x := rfl

@[simp] theorem request_oneShot (x : Xfer) (s : State) : (request x s).oneShot = s.oneShot := rfl

@[simp] theorem request_afterClose (x : Xfer) (s : State) :
    (request x s).afterClose = s.afterClose := rfl

@[simp] theorem request_env (x : Xfer) (s : State) : (request x s).env = s.env := rfl

/-! ### requestClose -/

@[simp] theorem requestClose_cfg (a : AfterClose) (s : State) :
    (requestClose a s).cfg = s.cfg := rfl

@[simp] theorem requestClose_status (a : AfterClose) (s : State) :
    (requestClose a s).status = s.status := rfl

@[simp] theorem requestClose_err (a : AfterClose) (s : State) :
    (requestClose a s).err = s.err := rfl

@[simp] theorem requestClose_ip (a : AfterClose) (s : State) : (requestClose a s).ip = s.ip := rfl

@[simp] theorem requestClose_result (a : AfterClose) (s : State) :
    (requestClose a s).result = s.result := rfl

@[simp] theorem requestClose_ckerrCnt (a : AfterClose) (s : State) :
    (requestClose a s).ckerrCnt = s.ckerrCnt := rfl

@[simp] theorem requestClose_cycleCnt (a : AfterClose) (s : State) :
    (requestClose a s).cycleCnt = s.cycleCnt := rfl

@[simp] theorem requestClose_seq (a : AfterClose) (s : State) :
    (requestClose a s).seq = s.seq := rfl

@[simp] theorem requestClose_elapsed (a : AfterClose) (s : State) :
    (requestClose a s).elapsed = s.elapsed := rfl

@[simp] theorem requestClose_phase (a : AfterClose) (s : State) :
    (requestClose a s).phase = s.phase := rfl

@[simp] theorem requestClose_cvtOut (a : AfterClose) (s : State) :
    (requestClose a s).cvtOut = s.cvtOut := rfl

@[simp] theorem requestClose_txLen (a : AfterClose) (s : State) :
    (requestClose a s).txLen = s.txLen := rfl

@[simp] theorem requestClose_rxLen (a : AfterClose) (s : State) :
    (requestClose a s).rxLen = s.rxLen := rfl

@[simp] theorem requestClose_tgt (a : AfterClose) (s : State) :
    (requestClose a s).tgt = s.tgt := rfl

@[simp] theorem requestClose_cmdv (a : AfterClose) (s : State) :
    (requestClose a s).cmdv = s.cmdv := rfl

@[simp] theorem requestClose_fb (a : AfterClose) (s : State) : (requestClose a s).fb = s.fb := rfl

@[simp] theorem requestClose_txbuf (a : AfterClose) (s : State) :
    (requestClose a s).txbuf = s.txbuf := rfl

@[simp] theorem requestClose_rxbuf (a : AfterClose) (s : State) :
    (requestClose a s).rxbuf = s.rxbuf := rfl

@[simp] theorem requestClose_pending (a : AfterClose) (s : State) :
    (requestClose a s).pending = s.pending := rfl

@[simp] theorem requestClose_t0 (a : AfterClose) (s : State) : (requestClose a s).t0 = s.t0 := rfl

@[simp] theorem requestClose_ta (a : AfterClose) (s : State) : (requestClose a s).ta = s.ta := rfl

@[simp] theorem requestClose_xfer (a : AfterClose) (s : State) :
    (requestClose a s).xfer = .closing := rfl

@[simp] theorem requestClose_oneShot (a : AfterClose) (s : State) :
    (requestClose a s).oneShot = s.oneShot := rfl

@[simp] theorem requestClose_afterClose (a : AfterClose) (s : State) :
    (requestClose a s).afterClose = a := rfl

@[simp] theorem requestClose_env (a : AfterClose) (s : State) :
    (requestClose a s).env = s.env := rfl

/-! ### clearReceive -/

@[simp] theorem clearReceive_cfg (s : State) : (clearReceive s).cfg = s.cfg := rfl

@[simp] theorem clearReceive_status (s : State) :
    (clearReceive s).status = { s.status with valid := false } := rfl

@[simp] theorem clearReceive_err (s : State) : (clearReceive s).err = s.err := rfl

@[simp] theorem clearReceive_ip (s : State) : (clearReceive s).ip = s.ip := rfl

@[simp] theorem clearReceive_result (s : State) : (clearReceive s).result = s.result := rfl

@[simp] theorem clearReceive_ckerrCnt (s : State) : (clearReceive s).ckerrCnt = s.ckerrCnt := rfl

@[simp] theorem clearReceive_cycleCnt (s : State) : (clearReceive s).cycleCnt = s.cycleCnt := rfl

@[simp] theorem clearReceive_seq (s : State) : (clearReceive s).seq = s.seq := rfl

@[simp] theorem clearReceive_elapsed (s : State) : (clearReceive s).elapsed = s.elapsed := rfl

@[simp] theorem clearReceive_phase (s : State) : (clearReceive s).phase = s.phase := rfl

@[simp] theorem clearReceive_cvtOut (s : State) : (clearReceive s).cvtOut = s.cvtOut := rfl

@[simp] theorem clearReceive_txLen (s : State) : (clearReceive s).txLen = s.txLen := rfl

@[simp] theorem clearReceive_rxLen (s : State) : (clearReceive s).rxLen = 0 := rfl

@[simp] theorem clearReceive_tgt (s : State) : (clearReceive s).tgt = s.tgt := rfl

@[simp] theorem clearReceive_cmdv (s : State) : (clearReceive s).cmdv = s.cmdv := rfl

@[simp] theorem clearReceive_fb (s : State) : (clearReceive s).fb = s.fb := rfl

@[simp] theorem clearReceive_txbuf (s : State) : (clearReceive s).txbuf = s.txbuf := rfl

@[simp] theorem clearReceive_rxbuf (s : State) : (clearReceive s).rxbuf = [] := rfl

@[simp] theorem clearReceive_pending (s : State) : (clearReceive s).pending = s.pending := rfl

@[simp] theorem clearReceive_t0 (s : State) : (clearReceive s).t0 = s.t0 := rfl

@[simp] theorem clearReceive_ta (s : State) : (clearReceive s).ta = s.ta := rfl

@[simp] theorem clearReceive_xfer (s : State) : (clearReceive s).xfer = s.xfer := rfl

@[simp] theorem clearReceive_oneShot (s : State) : (clearReceive s).oneShot = s.oneShot := rfl

@[simp] theorem clearReceive_afterClose (s : State) :
    (clearReceive s).afterClose = s.afterClose := rfl

@[simp] theorem clearReceive_env (s : State) : (clearReceive s).env = s.env := rfl

/-! ### withCheckResult -/

@[simp] theorem withCheckResult_cfg (s : State) : (withCheckResult s).cfg = s.cfg := rfl

@[simp] theorem withCheckResult_status (s : State) : (withCheckResult s).status = s.status := rfl

@[simp] theorem withCheckResult_err (s : State) : (withCheckResult s).err = s.err := rfl

@[simp] theorem withCheckResult_ip (s : State) : (withCheckResult s).ip = s.ip := rfl

@[simp] theorem withCheckResult_result (s : State) :
    (withCheckResult s).result = checkBytes s.txbuf s.txLen.toNat := rfl

@[simp] theorem withCheckResult_ckerrCnt (s : State) :
    (withCheckResult s).ckerrCnt = s.ckerrCnt := rfl

@[simp] theorem withCheckResult_cycleCnt (s : State) :
    (withCheckResult s).cycleCnt = s.cycleCnt := rfl

@[simp] theorem withCheckResult_seq (s : State) : (withCheckResult s).seq = s.seq := rfl

@[simp] theorem withCheckResult_elapsed (s : State) : (withCheckResult s).elapsed = s.elapsed := rfl

@[simp] theorem withCheckResult_phase (s : State) : (withCheckResult s).phase = s.phase := rfl

@[simp] theorem withCheckResult_cvtOut (s : State) : (withCheckResult s).cvtOut = s.cvtOut := rfl

@[simp] theorem withCheckResult_txLen (s : State) : (withCheckResult s).txLen = s.txLen := rfl

@[simp] theorem withCheckResult_rxLen (s : State) : (withCheckResult s).rxLen = s.rxLen := rfl

@[simp] theorem withCheckResult_tgt (s : State) : (withCheckResult s).tgt = s.tgt := rfl

@[simp] theorem withCheckResult_cmdv (s : State) : (withCheckResult s).cmdv = s.cmdv := rfl

@[simp] theorem withCheckResult_fb (s : State) : (withCheckResult s).fb = s.fb := rfl

@[simp] theorem withCheckResult_txbuf (s : State) : (withCheckResult s).txbuf = s.txbuf := rfl

@[simp] theorem withCheckResult_rxbuf (s : State) : (withCheckResult s).rxbuf = s.rxbuf := rfl

@[simp] theorem withCheckResult_pending (s : State) : (withCheckResult s).pending = s.pending := rfl

@[simp] theorem withCheckResult_t0 (s : State) : (withCheckResult s).t0 = s.t0 := rfl

@[simp] theorem withCheckResult_ta (s : State) : (withCheckResult s).ta = s.ta := rfl

@[simp] theorem withCheckResult_xfer (s : State) : (withCheckResult s).xfer = s.xfer := rfl

@[simp] theorem withCheckResult_oneShot (s : State) : (withCheckResult s).oneShot = s.oneShot := rfl

@[simp] theorem withCheckResult_afterClose (s : State) :
    (withCheckResult s).afterClose = s.afterClose := rfl

@[simp] theorem withCheckResult_env (s : State) : (withCheckResult s).env = s.env := rfl

/-! ### sealRaw -/

@[simp] theorem sealRaw_cfg (s : State) : (sealRaw s).cfg = s.cfg := rfl

@[simp] theorem sealRaw_status (s : State) : (sealRaw s).status = s.status := rfl

@[simp] theorem sealRaw_err (s : State) : (sealRaw s).err = s.err := rfl

@[simp] theorem sealRaw_ip (s : State) : (sealRaw s).ip = s.ip := rfl

@[simp] theorem sealRaw_result (s : State) : (sealRaw s).result = s.result := rfl

@[simp] theorem sealRaw_ckerrCnt (s : State) : (sealRaw s).ckerrCnt = s.ckerrCnt := rfl

@[simp] theorem sealRaw_cycleCnt (s : State) : (sealRaw s).cycleCnt = s.cycleCnt := rfl

@[simp] theorem sealRaw_seq (s : State) : (sealRaw s).seq = s.seq := rfl

@[simp] theorem sealRaw_elapsed (s : State) : (sealRaw s).elapsed = s.elapsed := rfl

@[simp] theorem sealRaw_phase (s : State) : (sealRaw s).phase = s.phase := rfl

@[simp] theorem sealRaw_cvtOut (s : State) : (sealRaw s).cvtOut = s.cvtOut := rfl

@[simp] theorem sealRaw_txLen (s : State) : (sealRaw s).txLen = s.txLen := rfl

@[simp] theorem sealRaw_rxLen (s : State) : (sealRaw s).rxLen = s.rxLen := rfl

@[simp] theorem sealRaw_tgt (s : State) : (sealRaw s).tgt = s.tgt := rfl

@[simp] theorem sealRaw_cmdv (s : State) : (sealRaw s).cmdv = s.cmdv := rfl

@[simp] theorem sealRaw_fb (s : State) : (sealRaw s).fb = s.fb := rfl

@[simp] theorem sealRaw_txbuf (s : State) :
    (sealRaw s).txbuf = sealFrame (memWrite s.txbuf 0 s.txLen) s.txLen.toNat := rfl

@[simp] theorem sealRaw_rxbuf (s : State) : (sealRaw s).rxbuf = s.rxbuf := rfl

@[simp] theorem sealRaw_pending (s : State) : (sealRaw s).pending = s.pending := rfl

@[simp] theorem sealRaw_t0 (s : State) : (sealRaw s).t0 = s.t0 := rfl

@[simp] theorem sealRaw_ta (s : State) : (sealRaw s).ta = s.ta := rfl

@[simp] theorem sealRaw_xfer (s : State) : (sealRaw s).xfer = s.xfer := rfl

@[simp] theorem sealRaw_oneShot (s : State) : (sealRaw s).oneShot = s.oneShot := rfl

@[simp] theorem sealRaw_afterClose (s : State) : (sealRaw s).afterClose = s.afterClose := rfl

@[simp] theorem sealRaw_env (s : State) : (sealRaw s).env = s.env := rfl

/-! ### decodeFrame -/

@[simp] theorem decodeFrame_cfg (s : State) : (decodeFrame s).cfg = s.cfg := rfl

@[simp] theorem decodeFrame_status (s : State) : (decodeFrame s).status = s.status := rfl

@[simp] theorem decodeFrame_err (s : State) : (decodeFrame s).err = s.err := rfl

@[simp] theorem decodeFrame_ip (s : State) : (decodeFrame s).ip = s.ip := rfl

@[simp] theorem decodeFrame_result (s : State) : (decodeFrame s).result = s.result := rfl

@[simp] theorem decodeFrame_ckerrCnt (s : State) : (decodeFrame s).ckerrCnt = s.ckerrCnt := rfl

@[simp] theorem decodeFrame_cycleCnt (s : State) : (decodeFrame s).cycleCnt = s.cycleCnt := rfl

@[simp] theorem decodeFrame_seq (s : State) : (decodeFrame s).seq = s.seq + 1 := rfl

@[simp] theorem decodeFrame_elapsed (s : State) : (decodeFrame s).elapsed = s.elapsed := rfl

@[simp] theorem decodeFrame_phase (s : State) : (decodeFrame s).phase = s.phase := rfl

@[simp] theorem decodeFrame_cvtOut (s : State) : (decodeFrame s).cvtOut = s.cvtOut := rfl

@[simp] theorem decodeFrame_txLen (s : State) : (decodeFrame s).txLen = s.txLen := rfl

@[simp] theorem decodeFrame_rxLen (s : State) : (decodeFrame s).rxLen = s.rxLen := rfl

@[simp] theorem decodeFrame_tgt (s : State) : (decodeFrame s).tgt = s.tgt := rfl

@[simp] theorem decodeFrame_cmdv (s : State) : (decodeFrame s).cmdv = s.cmdv := rfl

@[simp] theorem decodeFrame_fb (s : State) : (decodeFrame s).fb = decodedFeedback s := rfl

@[simp] theorem decodeFrame_txbuf (s : State) : (decodeFrame s).txbuf = s.txbuf := rfl

@[simp] theorem decodeFrame_rxbuf (s : State) : (decodeFrame s).rxbuf = s.rxbuf := rfl

@[simp] theorem decodeFrame_pending (s : State) : (decodeFrame s).pending = s.pending := rfl

@[simp] theorem decodeFrame_t0 (s : State) : (decodeFrame s).t0 = s.t0 := rfl

@[simp] theorem decodeFrame_ta (s : State) : (decodeFrame s).ta = s.ta := rfl

@[simp] theorem decodeFrame_xfer (s : State) : (decodeFrame s).xfer = s.xfer := rfl

@[simp] theorem decodeFrame_oneShot (s : State) : (decodeFrame s).oneShot = s.oneShot := rfl

@[simp] theorem decodeFrame_afterClose (s : State) :
    (decodeFrame s).afterClose = s.afterClose := rfl

@[simp] theorem decodeFrame_env (s : State) : (decodeFrame s).env = s.env := rfl

/-! ### answerHost -/

@[simp] theorem answerHost_cfg (v : Word) (s : State) : (answerHost v s).cfg = s.cfg := rfl

@[simp] theorem answerHost_status (v : Word) (s : State) : (answerHost v s).status = s.status := rfl

@[simp] theorem answerHost_err (v : Word) (s : State) : (answerHost v s).err = s.err := rfl

@[simp] theorem answerHost_ip (v : Word) (s : State) : (answerHost v s).ip = s.ip := rfl

@[simp] theorem answerHost_result (v : Word) (s : State) : (answerHost v s).result = s.result := rfl

@[simp] theorem answerHost_ckerrCnt (v : Word) (s : State) :
    (answerHost v s).ckerrCnt = s.ckerrCnt := rfl

@[simp] theorem answerHost_cycleCnt (v : Word) (s : State) :
    (answerHost v s).cycleCnt = s.cycleCnt := rfl

@[simp] theorem answerHost_seq (v : Word) (s : State) : (answerHost v s).seq = s.seq := rfl

@[simp] theorem answerHost_elapsed (v : Word) (s : State) :
    (answerHost v s).elapsed = s.elapsed := rfl

@[simp] theorem answerHost_phase (v : Word) (s : State) : (answerHost v s).phase = s.phase := rfl

@[simp] theorem answerHost_cvtOut (v : Word) (s : State) : (answerHost v s).cvtOut = s.cvtOut := rfl

@[simp] theorem answerHost_txLen (v : Word) (s : State) : (answerHost v s).txLen = s.txLen := rfl

@[simp] theorem answerHost_rxLen (v : Word) (s : State) : (answerHost v s).rxLen = s.rxLen := rfl

@[simp] theorem answerHost_tgt (v : Word) (s : State) : (answerHost v s).tgt = s.tgt := rfl

@[simp] theorem answerHost_cmdv (v : Word) (s : State) : (answerHost v s).cmdv = s.cmdv := rfl

@[simp] theorem answerHost_fb (v : Word) (s : State) : (answerHost v s).fb = s.fb := rfl

@[simp] theorem answerHost_txbuf (v : Word) (s : State) : (answerHost v s).txbuf = s.txbuf := rfl

@[simp] theorem answerHost_rxbuf (v : Word) (s : State) : (answerHost v s).rxbuf = s.rxbuf := rfl

@[simp] theorem answerHost_pending (v : Word) (s : State) :
    (answerHost v s).pending = s.pending := rfl

@[simp] theorem answerHost_t0 (v : Word) (s : State) : (answerHost v s).t0 = s.t0 := rfl

@[simp] theorem answerHost_ta (v : Word) (s : State) : (answerHost v s).ta = s.ta := rfl

@[simp] theorem answerHost_xfer (v : Word) (s : State) : (answerHost v s).xfer = s.xfer := rfl

@[simp] theorem answerHost_oneShot (v : Word) (s : State) :
    (answerHost v s).oneShot = s.oneShot := rfl

@[simp] theorem answerHost_afterClose (v : Word) (s : State) :
    (answerHost v s).afterClose = s.afterClose := rfl

@[simp] theorem answerHost_env (v : Word) (s : State) :
    (answerHost v s).env = { s.env with busOut := v } := rfl

/-! ### busError -/

@[simp] theorem busError_cfg (s : State) : (busError s).cfg = s.cfg := rfl

@[simp] theorem busError_status (s : State) :
    (busError s).status = { s.status with busErr := true } := rfl

@[simp] theorem busError_err (s : State) : (busError s).err = s.err := rfl

@[simp] theorem busError_ip (s : State) : (busError s).ip = s.ip := rfl

@[simp] theorem busError_result (s : State) : (busError s).result = s.result := rfl

@[simp] theorem busError_ckerrCnt (s : State) : (busError s).ckerrCnt = s.ckerrCnt := rfl

@[simp] theorem busError_cycleCnt (s : State) : (busError s).cycleCnt = s.cycleCnt := rfl

@[simp] theorem busError_seq (s : State) : (busError s).seq = s.seq := rfl

@[simp] theorem busError_elapsed (s : State) : (busError s).elapsed = s.elapsed := rfl

@[simp] theorem busError_phase (s : State) : (busError s).phase = s.phase := rfl

@[simp] theorem busError_cvtOut (s : State) : (busError s).cvtOut = s.cvtOut := rfl

@[simp] theorem busError_txLen (s : State) : (busError s).txLen = s.txLen := rfl

@[simp] theorem busError_rxLen (s : State) : (busError s).rxLen = s.rxLen := rfl

@[simp] theorem busError_tgt (s : State) : (busError s).tgt = s.tgt := rfl

@[simp] theorem busError_cmdv (s : State) : (busError s).cmdv = s.cmdv := rfl

@[simp] theorem busError_fb (s : State) : (busError s).fb = s.fb := rfl

@[simp] theorem busError_txbuf (s : State) : (busError s).txbuf = s.txbuf := rfl

@[simp] theorem busError_rxbuf (s : State) : (busError s).rxbuf = s.rxbuf := rfl

@[simp] theorem busError_pending (s : State) : (busError s).pending = s.pending := rfl

@[simp] theorem busError_t0 (s : State) : (busError s).t0 = s.t0 := rfl

@[simp] theorem busError_ta (s : State) : (busError s).ta = s.ta := rfl

@[simp] theorem busError_xfer (s : State) : (busError s).xfer = s.xfer := rfl

@[simp] theorem busError_oneShot (s : State) : (busError s).oneShot = s.oneShot := rfl

@[simp] theorem busError_afterClose (s : State) : (busError s).afterClose = s.afterClose := rfl

@[simp] theorem busError_env (s : State) : (busError s).env = s.env := rfl

/-! ### scheduled -/

@[simp] theorem scheduled_cfg (rest : List Turn) (s : State) : (scheduled rest s).cfg = s.cfg := rfl

@[simp] theorem scheduled_status (rest : List Turn) (s : State) :
    (scheduled rest s).status = s.status := rfl

@[simp] theorem scheduled_err (rest : List Turn) (s : State) : (scheduled rest s).err = s.err := rfl

@[simp] theorem scheduled_ip (rest : List Turn) (s : State) : (scheduled rest s).ip = s.ip := rfl

@[simp] theorem scheduled_result (rest : List Turn) (s : State) :
    (scheduled rest s).result = s.result := rfl

@[simp] theorem scheduled_ckerrCnt (rest : List Turn) (s : State) :
    (scheduled rest s).ckerrCnt = s.ckerrCnt := rfl

@[simp] theorem scheduled_cycleCnt (rest : List Turn) (s : State) :
    (scheduled rest s).cycleCnt = s.cycleCnt := rfl

@[simp] theorem scheduled_seq (rest : List Turn) (s : State) : (scheduled rest s).seq = s.seq := rfl

@[simp] theorem scheduled_elapsed (rest : List Turn) (s : State) :
    (scheduled rest s).elapsed = s.elapsed := rfl

@[simp] theorem scheduled_phase (rest : List Turn) (s : State) :
    (scheduled rest s).phase = s.phase := rfl

@[simp] theorem scheduled_cvtOut (rest : List Turn) (s : State) :
    (scheduled rest s).cvtOut = s.cvtOut := rfl

@[simp] theorem scheduled_txLen (rest : List Turn) (s : State) :
    (scheduled rest s).txLen = s.txLen := rfl

@[simp] theorem scheduled_rxLen (rest : List Turn) (s : State) :
    (scheduled rest s).rxLen = s.rxLen := rfl

@[simp] theorem scheduled_tgt (rest : List Turn) (s : State) : (scheduled rest s).tgt = s.tgt := rfl

@[simp] theorem scheduled_cmdv (rest : List Turn) (s : State) :
    (scheduled rest s).cmdv = s.cmdv := rfl

@[simp] theorem scheduled_fb (rest : List Turn) (s : State) : (scheduled rest s).fb = s.fb := rfl

@[simp] theorem scheduled_txbuf (rest : List Turn) (s : State) :
    (scheduled rest s).txbuf = s.txbuf := rfl

@[simp] theorem scheduled_rxbuf (rest : List Turn) (s : State) :
    (scheduled rest s).rxbuf = s.rxbuf := rfl

@[simp] theorem scheduled_pending (rest : List Turn) (s : State) :
    (scheduled rest s).pending = s.pending := rfl

@[simp] theorem scheduled_t0 (rest : List Turn) (s : State) : (scheduled rest s).t0 = s.t0 := rfl

@[simp] theorem scheduled_ta (rest : List Turn) (s : State) : (scheduled rest s).ta = s.ta := rfl

@[simp] theorem scheduled_xfer (rest : List Turn) (s : State) :
    (scheduled rest s).xfer = s.xfer := rfl

@[simp] theorem scheduled_oneShot (rest : List Turn) (s : State) :
    (scheduled rest s).oneShot = s.oneShot := rfl

@[simp] theorem scheduled_afterClose (rest : List Turn) (s : State) :
    (scheduled rest s).afterClose = s.afterClose := rfl

@[simp] theorem scheduled_env (rest : List Turn) (s : State) :
    (scheduled rest s).env = { s.env with agenda := rest, draws := s.env.draws + 1 } := rfl

/-! ### unscheduled -/

@[simp] theorem unscheduled_cfg (s : State) : (unscheduled s).cfg = s.cfg := rfl

@[simp] theorem unscheduled_status (s : State) : (unscheduled s).status = s.status := rfl

@[simp] theorem unscheduled_err (s : State) : (unscheduled s).err = s.err := rfl

@[simp] theorem unscheduled_ip (s : State) : (unscheduled s).ip = s.ip := rfl

@[simp] theorem unscheduled_result (s : State) : (unscheduled s).result = s.result := rfl

@[simp] theorem unscheduled_ckerrCnt (s : State) : (unscheduled s).ckerrCnt = s.ckerrCnt := rfl

@[simp] theorem unscheduled_cycleCnt (s : State) : (unscheduled s).cycleCnt = s.cycleCnt := rfl

@[simp] theorem unscheduled_seq (s : State) : (unscheduled s).seq = s.seq := rfl

@[simp] theorem unscheduled_elapsed (s : State) : (unscheduled s).elapsed = s.elapsed := rfl

@[simp] theorem unscheduled_phase (s : State) : (unscheduled s).phase = s.phase := rfl

@[simp] theorem unscheduled_cvtOut (s : State) : (unscheduled s).cvtOut = s.cvtOut := rfl

@[simp] theorem unscheduled_txLen (s : State) : (unscheduled s).txLen = s.txLen := rfl

@[simp] theorem unscheduled_rxLen (s : State) : (unscheduled s).rxLen = s.rxLen := rfl

@[simp] theorem unscheduled_tgt (s : State) : (unscheduled s).tgt = s.tgt := rfl

@[simp] theorem unscheduled_cmdv (s : State) : (unscheduled s).cmdv = s.cmdv := rfl

@[simp] theorem unscheduled_fb (s : State) : (unscheduled s).fb = s.fb := rfl

@[simp] theorem unscheduled_txbuf (s : State) : (unscheduled s).txbuf = s.txbuf := rfl

@[simp] theorem unscheduled_rxbuf (s : State) : (unscheduled s).rxbuf = s.rxbuf := rfl

@[simp] theorem unscheduled_pending (s : State) : (unscheduled s).pending = s.pending := rfl

@[simp] theorem unscheduled_t0 (s : State) : (unscheduled s).t0 = s.t0 := rfl

@[simp] theorem unscheduled_ta (s : State) : (unscheduled s).ta = s.ta := rfl

@[simp] theorem unscheduled_xfer (s : State) : (unscheduled s).xfer = s.xfer := rfl

@[simp] theorem unscheduled_oneShot (s : State) : (unscheduled s).oneShot = s.oneShot := rfl

@[simp] theorem unscheduled_afterClose (s : State) :
    (unscheduled s).afterClose = s.afterClose := rfl

/-! ### clockTurn -/

@[simp] theorem clockTurn_cfg (t : Ticks) (s : State) : (clockTurn t s).cfg = s.cfg := rfl

@[simp] theorem clockTurn_status (t : Ticks) (s : State) : (clockTurn t s).status = s.status := rfl

@[simp] theorem clockTurn_err (t : Ticks) (s : State) : (clockTurn t s).err = s.err := rfl

@[simp] theorem clockTurn_ip (t : Ticks) (s : State) : (clockTurn t s).ip = s.ip := rfl

@[simp] theorem clockTurn_result (t : Ticks) (s : State) : (clockTurn t s).result = s.result := rfl

@[simp] theorem clockTurn_ckerrCnt (t : Ticks) (s : State) :
    (clockTurn t s).ckerrCnt = s.ckerrCnt := rfl

@[simp] theorem clockTurn_cycleCnt (t : Ticks) (s : State) :
    (clockTurn t s).cycleCnt = s.cycleCnt := rfl

@[simp] theorem clockTurn_seq (t : Ticks) (s : State) : (clockTurn t s).seq = s.seq := rfl

@[simp] theorem clockTurn_elapsed (t : Ticks) (s : State) :
    (clockTurn t s).elapsed = s.elapsed := rfl

@[simp] theorem clockTurn_phase (t : Ticks) (s : State) : (clockTurn t s).phase = s.phase := rfl

@[simp] theorem clockTurn_cvtOut (t : Ticks) (s : State) : (clockTurn t s).cvtOut = s.cvtOut := rfl

@[simp] theorem clockTurn_txLen (t : Ticks) (s : State) : (clockTurn t s).txLen = s.txLen := rfl

@[simp] theorem clockTurn_rxLen (t : Ticks) (s : State) : (clockTurn t s).rxLen = s.rxLen := rfl

@[simp] theorem clockTurn_tgt (t : Ticks) (s : State) : (clockTurn t s).tgt = s.tgt := rfl

@[simp] theorem clockTurn_cmdv (t : Ticks) (s : State) : (clockTurn t s).cmdv = s.cmdv := rfl

@[simp] theorem clockTurn_fb (t : Ticks) (s : State) : (clockTurn t s).fb = s.fb := rfl

@[simp] theorem clockTurn_txbuf (t : Ticks) (s : State) : (clockTurn t s).txbuf = s.txbuf := rfl

@[simp] theorem clockTurn_rxbuf (t : Ticks) (s : State) : (clockTurn t s).rxbuf = s.rxbuf := rfl

@[simp] theorem clockTurn_pending (t : Ticks) (s : State) :
    (clockTurn t s).pending = s.pending := rfl

@[simp] theorem clockTurn_t0 (t : Ticks) (s : State) : (clockTurn t s).t0 = s.t0 := rfl

@[simp] theorem clockTurn_ta (t : Ticks) (s : State) : (clockTurn t s).ta = s.ta := rfl

@[simp] theorem clockTurn_xfer (t : Ticks) (s : State) : (clockTurn t s).xfer = s.xfer := rfl

@[simp] theorem clockTurn_oneShot (t : Ticks) (s : State) :
    (clockTurn t s).oneShot = s.oneShot := rfl

@[simp] theorem clockTurn_afterClose (t : Ticks) (s : State) :
    (clockTurn t s).afterClose = s.afterClose := rfl

@[simp] theorem clockTurn_env (t : Ticks) (s : State) :
    (clockTurn t s).env = { s.env with now := if s.env.now.toNat ≤ t.toNat then t else s.env.now } := rfl

/-! ### resetClear -/

@[simp] theorem resetClear_cfg (s : State) : (resetClear s).cfg = s.cfg := rfl

@[simp] theorem resetClear_status (s : State) : (resetClear s).status = Status.reset := rfl

@[simp] theorem resetClear_err (s : State) : (resetClear s).err = ErrReg.reset := rfl

@[simp] theorem resetClear_ip (s : State) : (resetClear s).ip = 0 := rfl

@[simp] theorem resetClear_result (s : State) : (resetClear s).result = 0 := rfl

@[simp] theorem resetClear_ckerrCnt (s : State) : (resetClear s).ckerrCnt = 0 := rfl

@[simp] theorem resetClear_cycleCnt (s : State) : (resetClear s).cycleCnt = 0 := rfl

@[simp] theorem resetClear_seq (s : State) : (resetClear s).seq = 0 := rfl

@[simp] theorem resetClear_elapsed (s : State) : (resetClear s).elapsed = 0 := rfl

@[simp] theorem resetClear_phase (s : State) : (resetClear s).phase = 0 := rfl

@[simp] theorem resetClear_cvtOut (s : State) : (resetClear s).cvtOut = 0 := rfl

@[simp] theorem resetClear_txLen (s : State) : (resetClear s).txLen = 0 := rfl

@[simp] theorem resetClear_rxLen (s : State) : (resetClear s).rxLen = 0 := rfl

@[simp] theorem resetClear_tgt (s : State) : (resetClear s).tgt = Six.all 0 := rfl

@[simp] theorem resetClear_cmdv (s : State) : (resetClear s).cmdv = Six.all 0 := rfl

@[simp] theorem resetClear_fb (s : State) : (resetClear s).fb = Feedback.reset := rfl

@[simp] theorem resetClear_txbuf (s : State) : (resetClear s).txbuf = [] := rfl

@[simp] theorem resetClear_rxbuf (s : State) : (resetClear s).rxbuf = [] := rfl

@[simp] theorem resetClear_pending (s : State) : (resetClear s).pending = s.pending := rfl

@[simp] theorem resetClear_t0 (s : State) : (resetClear s).t0 = 0 := rfl

@[simp] theorem resetClear_ta (s : State) : (resetClear s).ta = 0 := rfl

@[simp] theorem resetClear_xfer (s : State) : (resetClear s).xfer = .none := rfl

@[simp] theorem resetClear_oneShot (s : State) : (resetClear s).oneShot = false := rfl

@[simp] theorem resetClear_afterClose (s : State) : (resetClear s).afterClose = .stopped := rfl

@[simp] theorem resetClear_env (s : State) : (resetClear s).env = s.env := rfl

@[simp] theorem cmdError_eq (c : ErrCode) (s : State) : cmdError c s = complete c s := rfl

@[simp] theorem done_eq (s : State) : done s = .next (complete .none s) := rfl

/-! ### rangeEvent -/

@[simp] theorem rangeEvent_cfg (hit : Bool) (s : State) :
    (rangeEvent hit s).cfg = s.cfg := by
  cases hit <;> simp [rangeEvent]

@[simp] theorem rangeEvent_status (hit : Bool) (s : State) :
    (rangeEvent hit s).status = { s.status with range := (s.status.range || hit) } := by
  cases hit <;> simp [rangeEvent]

@[simp] theorem rangeEvent_err (hit : Bool) (s : State) :
    (rangeEvent hit s).err = s.err := by
  cases hit <;> simp [rangeEvent]

@[simp] theorem rangeEvent_ip (hit : Bool) (s : State) :
    (rangeEvent hit s).ip = if hit then s.ip ||| ipRange else s.ip := by
  cases hit <;> simp [rangeEvent]

@[simp] theorem rangeEvent_result (hit : Bool) (s : State) :
    (rangeEvent hit s).result = s.result := by
  cases hit <;> simp [rangeEvent]

@[simp] theorem rangeEvent_ckerrCnt (hit : Bool) (s : State) :
    (rangeEvent hit s).ckerrCnt = s.ckerrCnt := by
  cases hit <;> simp [rangeEvent]

@[simp] theorem rangeEvent_cycleCnt (hit : Bool) (s : State) :
    (rangeEvent hit s).cycleCnt = s.cycleCnt := by
  cases hit <;> simp [rangeEvent]

@[simp] theorem rangeEvent_seq (hit : Bool) (s : State) :
    (rangeEvent hit s).seq = s.seq := by
  cases hit <;> simp [rangeEvent]

@[simp] theorem rangeEvent_elapsed (hit : Bool) (s : State) :
    (rangeEvent hit s).elapsed = s.elapsed := by
  cases hit <;> simp [rangeEvent]

@[simp] theorem rangeEvent_phase (hit : Bool) (s : State) :
    (rangeEvent hit s).phase = s.phase := by
  cases hit <;> simp [rangeEvent]

@[simp] theorem rangeEvent_cvtOut (hit : Bool) (s : State) :
    (rangeEvent hit s).cvtOut = s.cvtOut := by
  cases hit <;> simp [rangeEvent]

@[simp] theorem rangeEvent_txLen (hit : Bool) (s : State) :
    (rangeEvent hit s).txLen = s.txLen := by
  cases hit <;> simp [rangeEvent]

@[simp] theorem rangeEvent_rxLen (hit : Bool) (s : State) :
    (rangeEvent hit s).rxLen = s.rxLen := by
  cases hit <;> simp [rangeEvent]

@[simp] theorem rangeEvent_tgt (hit : Bool) (s : State) :
    (rangeEvent hit s).tgt = s.tgt := by
  cases hit <;> simp [rangeEvent]

@[simp] theorem rangeEvent_cmdv (hit : Bool) (s : State) :
    (rangeEvent hit s).cmdv = s.cmdv := by
  cases hit <;> simp [rangeEvent]

@[simp] theorem rangeEvent_fb (hit : Bool) (s : State) :
    (rangeEvent hit s).fb = s.fb := by
  cases hit <;> simp [rangeEvent]

@[simp] theorem rangeEvent_txbuf (hit : Bool) (s : State) :
    (rangeEvent hit s).txbuf = s.txbuf := by
  cases hit <;> simp [rangeEvent]

@[simp] theorem rangeEvent_rxbuf (hit : Bool) (s : State) :
    (rangeEvent hit s).rxbuf = s.rxbuf := by
  cases hit <;> simp [rangeEvent]

@[simp] theorem rangeEvent_pending (hit : Bool) (s : State) :
    (rangeEvent hit s).pending = s.pending := by
  cases hit <;> simp [rangeEvent]

@[simp] theorem rangeEvent_t0 (hit : Bool) (s : State) :
    (rangeEvent hit s).t0 = s.t0 := by
  cases hit <;> simp [rangeEvent]

@[simp] theorem rangeEvent_ta (hit : Bool) (s : State) :
    (rangeEvent hit s).ta = s.ta := by
  cases hit <;> simp [rangeEvent]

@[simp] theorem rangeEvent_xfer (hit : Bool) (s : State) :
    (rangeEvent hit s).xfer = s.xfer := by
  cases hit <;> simp [rangeEvent]

@[simp] theorem rangeEvent_oneShot (hit : Bool) (s : State) :
    (rangeEvent hit s).oneShot = s.oneShot := by
  cases hit <;> simp [rangeEvent]

@[simp] theorem rangeEvent_afterClose (hit : Bool) (s : State) :
    (rangeEvent hit s).afterClose = s.afterClose := by
  cases hit <;> simp [rangeEvent]

@[simp] theorem rangeEvent_env (hit : Bool) (s : State) :
    (rangeEvent hit s).env = s.env := by
  cases hit <;> simp [rangeEvent]

/-! ### lateCheck -/

@[simp] theorem lateCheck_cfg (s : State) :
    (lateCheck s).cfg = s.cfg := by
  unfold lateCheck; split <;> simp_all

@[simp] theorem lateCheck_status (s : State) :
    (lateCheck s).status = { s.status with
      late := (s.status.late || decide (s.cfg.period ≠ 0 ∧ deadline s < s.env.now.toNat)) } := by
  unfold lateCheck
  split
  · next h => rw [decide_eq_true h, Bool.or_true]
  · next h => simp only [h, decide_false, Bool.or_false]

@[simp] theorem lateCheck_err (s : State) :
    (lateCheck s).err = s.err := by
  unfold lateCheck; split <;> simp_all

@[simp] theorem lateCheck_ip (s : State) :
    (lateCheck s).ip = s.ip := by
  unfold lateCheck; split <;> simp_all

@[simp] theorem lateCheck_result (s : State) :
    (lateCheck s).result = s.result := by
  unfold lateCheck; split <;> simp_all

@[simp] theorem lateCheck_ckerrCnt (s : State) :
    (lateCheck s).ckerrCnt = s.ckerrCnt := by
  unfold lateCheck; split <;> simp_all

@[simp] theorem lateCheck_cycleCnt (s : State) :
    (lateCheck s).cycleCnt = s.cycleCnt := by
  unfold lateCheck; split <;> simp_all

@[simp] theorem lateCheck_seq (s : State) :
    (lateCheck s).seq = s.seq := by
  unfold lateCheck; split <;> simp_all

@[simp] theorem lateCheck_elapsed (s : State) :
    (lateCheck s).elapsed = s.elapsed := by
  unfold lateCheck; split <;> simp_all

@[simp] theorem lateCheck_phase (s : State) :
    (lateCheck s).phase = s.phase := by
  unfold lateCheck; split <;> simp_all

@[simp] theorem lateCheck_cvtOut (s : State) :
    (lateCheck s).cvtOut = s.cvtOut := by
  unfold lateCheck; split <;> simp_all

@[simp] theorem lateCheck_txLen (s : State) :
    (lateCheck s).txLen = s.txLen := by
  unfold lateCheck; split <;> simp_all

@[simp] theorem lateCheck_rxLen (s : State) :
    (lateCheck s).rxLen = s.rxLen := by
  unfold lateCheck; split <;> simp_all

@[simp] theorem lateCheck_tgt (s : State) :
    (lateCheck s).tgt = s.tgt := by
  unfold lateCheck; split <;> simp_all

@[simp] theorem lateCheck_cmdv (s : State) :
    (lateCheck s).cmdv = s.cmdv := by
  unfold lateCheck; split <;> simp_all

@[simp] theorem lateCheck_fb (s : State) :
    (lateCheck s).fb = s.fb := by
  unfold lateCheck; split <;> simp_all

@[simp] theorem lateCheck_txbuf (s : State) :
    (lateCheck s).txbuf = s.txbuf := by
  unfold lateCheck; split <;> simp_all

@[simp] theorem lateCheck_rxbuf (s : State) :
    (lateCheck s).rxbuf = s.rxbuf := by
  unfold lateCheck; split <;> simp_all

@[simp] theorem lateCheck_pending (s : State) :
    (lateCheck s).pending = s.pending := by
  unfold lateCheck; split <;> simp_all

@[simp] theorem lateCheck_t0 (s : State) :
    (lateCheck s).t0 = s.t0 := by
  unfold lateCheck; split <;> simp_all

@[simp] theorem lateCheck_ta (s : State) :
    (lateCheck s).ta = s.ta := by
  unfold lateCheck; split <;> simp_all

@[simp] theorem lateCheck_xfer (s : State) :
    (lateCheck s).xfer = s.xfer := by
  unfold lateCheck; split <;> simp_all

@[simp] theorem lateCheck_oneShot (s : State) :
    (lateCheck s).oneShot = s.oneShot := by
  unfold lateCheck; split <;> simp_all

@[simp] theorem lateCheck_afterClose (s : State) :
    (lateCheck s).afterClose = s.afterClose := by
  unfold lateCheck; split <;> simp_all

@[simp] theorem lateCheck_env (s : State) :
    (lateCheck s).env = s.env := by
  unfold lateCheck; split <;> simp_all

/-! ### fatal -/

@[simp] theorem fatal_cfg (c : ErrCode) (g : Stage) (s : State) :
    (fatal c g s).cfg = s.cfg := by
  unfold fatal; split <;> simp_all

@[simp] theorem fatal_status (c : ErrCode) (g : Stage) (s : State) :
    (fatal c g s).status = { s.status with
      state := .stopped, link := false, stopReq := false, stage := .boundary,
      busy := (s.status.busy && !commandStarted s) } := by
  unfold fatal; split <;> simp_all

@[simp] theorem fatal_err (c : ErrCode) (g : Stage) (s : State) :
    (fatal c g s).err = { cmdErr := (if commandStarted s then c else s.err.cmdErr), fatalCode := c, fatalStage := g } := by
  unfold fatal; split <;> simp_all

@[simp] theorem fatal_ip (c : ErrCode) (g : Stage) (s : State) :
    (fatal c g s).ip = if commandStarted s then s.ip ||| ipFatal ||| ipCmdDone else s.ip ||| ipFatal := by
  unfold fatal; split <;> simp_all

@[simp] theorem fatal_result (c : ErrCode) (g : Stage) (s : State) :
    (fatal c g s).result = s.result := by
  unfold fatal; split <;> simp_all

@[simp] theorem fatal_ckerrCnt (c : ErrCode) (g : Stage) (s : State) :
    (fatal c g s).ckerrCnt = s.ckerrCnt := by
  unfold fatal; split <;> simp_all

@[simp] theorem fatal_cycleCnt (c : ErrCode) (g : Stage) (s : State) :
    (fatal c g s).cycleCnt = s.cycleCnt := by
  unfold fatal; split <;> simp_all

@[simp] theorem fatal_seq (c : ErrCode) (g : Stage) (s : State) :
    (fatal c g s).seq = s.seq := by
  unfold fatal; split <;> simp_all

@[simp] theorem fatal_elapsed (c : ErrCode) (g : Stage) (s : State) :
    (fatal c g s).elapsed = s.elapsed := by
  unfold fatal; split <;> simp_all

@[simp] theorem fatal_phase (c : ErrCode) (g : Stage) (s : State) :
    (fatal c g s).phase = s.phase := by
  unfold fatal; split <;> simp_all

@[simp] theorem fatal_cvtOut (c : ErrCode) (g : Stage) (s : State) :
    (fatal c g s).cvtOut = s.cvtOut := by
  unfold fatal; split <;> simp_all

@[simp] theorem fatal_txLen (c : ErrCode) (g : Stage) (s : State) :
    (fatal c g s).txLen = s.txLen := by
  unfold fatal; split <;> simp_all

@[simp] theorem fatal_rxLen (c : ErrCode) (g : Stage) (s : State) :
    (fatal c g s).rxLen = s.rxLen := by
  unfold fatal; split <;> simp_all

@[simp] theorem fatal_tgt (c : ErrCode) (g : Stage) (s : State) :
    (fatal c g s).tgt = s.tgt := by
  unfold fatal; split <;> simp_all

@[simp] theorem fatal_cmdv (c : ErrCode) (g : Stage) (s : State) :
    (fatal c g s).cmdv = s.cmdv := by
  unfold fatal; split <;> simp_all

@[simp] theorem fatal_fb (c : ErrCode) (g : Stage) (s : State) :
    (fatal c g s).fb = s.fb := by
  unfold fatal; split <;> simp_all

@[simp] theorem fatal_txbuf (c : ErrCode) (g : Stage) (s : State) :
    (fatal c g s).txbuf = s.txbuf := by
  unfold fatal; split <;> simp_all

@[simp] theorem fatal_rxbuf (c : ErrCode) (g : Stage) (s : State) :
    (fatal c g s).rxbuf = s.rxbuf := by
  unfold fatal; split <;> simp_all

@[simp] theorem fatal_pending (c : ErrCode) (g : Stage) (s : State) :
    (fatal c g s).pending = if commandStarted s then none else s.pending := by
  unfold fatal; split <;> simp_all

@[simp] theorem fatal_t0 (c : ErrCode) (g : Stage) (s : State) :
    (fatal c g s).t0 = s.t0 := by
  unfold fatal; split <;> simp_all

@[simp] theorem fatal_ta (c : ErrCode) (g : Stage) (s : State) :
    (fatal c g s).ta = s.ta := by
  unfold fatal; split <;> simp_all

@[simp] theorem fatal_xfer (c : ErrCode) (g : Stage) (s : State) :
    (fatal c g s).xfer = .none := by
  unfold fatal; split <;> simp_all

@[simp] theorem fatal_oneShot (c : ErrCode) (g : Stage) (s : State) :
    (fatal c g s).oneShot = false := by
  unfold fatal; split <;> simp_all

@[simp] theorem fatal_afterClose (c : ErrCode) (g : Stage) (s : State) :
    (fatal c g s).afterClose = s.afterClose := by
  unfold fatal; split <;> simp_all

@[simp] theorem fatal_env (c : ErrCode) (g : Stage) (s : State) :
    (fatal c g s).env = s.env := by
  unfold fatal; split <;> simp_all

end Sys2Proof.Machine
end

