-- ==== Sys2Proof/Laws/Step.lean ====
section
/-! SUPPORT. What each shared operation, each turn and one step can do, said once. -/

namespace Sys2Proof.Machine

/-! ### The checks of a command -/

theorem require_true {c : ErrCode} {s : State} {k : Outcome} : require true c s k = k := rfl

theorem require_false {c : ErrCode} {s : State} {k : Outcome} :
    require false c s k = .next (complete c s) := rfl

/-- A check that answers a next state either holds and goes on, or ends the command with its code. -/
theorem require_next {ok : Bool} {c : ErrCode} {s t : State} {k : Outcome}
    (h : require ok c s k = .next t) : ok = true ∧ k = .next t ∨ ok = false ∧ t = complete c s := by
  cases ok with
  | true => exact .inl ⟨rfl, h⟩
  | false => exact .inr ⟨rfl, by simpa [require] using h.symm⟩

/-- Neither a check nor what follows it stops. -/
theorem require_proceeds {ok : Bool} {c : ErrCode} {s : State} {k : Outcome}
    (h : ∃ t, k = .next t) : ∃ t, require ok c s k = .next t := by
  cases ok with
  | true => exact h
  | false => exact ⟨_, rfl⟩

/-- What the check of `RX_LEN` asks: in VOLT_CL mode no more than `RX_MAX`, in the other modes nothing. -/
theorem receiveLengthOk_iff {s : State} :
    receiveLengthOk s = true ↔ (ctrlMode s = .voltCl → s.rxLen.toNat ≤ Config.rxMax) := by
  unfold receiveLengthOk
  cases ctrlMode s <;> simp

/-- Every command answers a next state, in every state. -/
theorem exec_proceeds (i : Instr) (s : State) : ∃ t, exec i s = .next t := by
  cases i
  case stop =>
    refine require_proceeds ?_
    split <;> exact ⟨_, rfl⟩
  case reset =>
    refine require_proceeds ?_
    split <;> exact ⟨_, rfl⟩
  all_goals
    first
    | exact ⟨_, rfl⟩
    | exact require_proceeds ⟨_, rfl⟩
    | exact require_proceeds (require_proceeds ⟨_, rfl⟩)
    | exact require_proceeds (require_proceeds (require_proceeds ⟨_, rfl⟩))

/-! ### Fatal entry and the Transport's answers -/

/-- A request that the loop made in RUNNING belongs to no command. -/
theorem commandStarted_running {s : State} (ho : s.oneShot = false) (hx : s.xfer ≠ .opening)
    (hs : s.status.state = .running) : commandStarted s = false := by
  unfold commandStarted
  rw [ho, hs]
  cases h : s.xfer <;> simp_all

/-- What an answer of the Transport can do. -/
theorem transportTurn_cases (a : Answer) (s : State) :
    s.xfer = .none ∧ transportTurn a s = s ∨
    s.xfer = .opening ∧ (transportTurn a s = initDone s ∨
      transportTurn a s = fatal .openFail .boundary s ∨
      transportTurn a s = fatal .initFail .boundary s) ∨
    (∃ tx, s.xfer = .exchange tx) ∧
      ((∃ rx : List Byte, rx.length ≤ Config.rxMax ∧ transportTurn a s = exchangeDone rx s) ∨
        transportTurn a s = fatal .exchangeFail .exchange s) ∨
    s.xfer = .closing ∧
      (s.afterClose = .idle ∧ transportTurn a s = complete .none (resetClear s) ∨
        s.afterClose = .stopped ∧
          (transportTurn a s = closeDone s ∨ transportTurn a s = fatal .closeFail .boundary s)) := by
  unfold transportTurn
  cases hx : s.xfer with
  | none => simp
  | opening => cases a <;> simp [answerOpen]
  | exchange tx =>
    cases a with
    | ok rx =>
      refine .inr (.inr (.inl ⟨⟨tx, rfl⟩, .inl ⟨rx.take Config.rxMax, ?_, rfl⟩⟩))
      rw [List.length_take]
      exact Nat.min_le_left _ _
    | fail => exact .inr (.inr (.inl ⟨⟨tx, rfl⟩, .inr rfl⟩))
    | initFail => exact .inr (.inr (.inl ⟨⟨tx, rfl⟩, .inr rfl⟩))
  | closing =>
    refine .inr (.inr (.inr ⟨rfl, ?_⟩))
    unfold answerClose
    cases ha : s.afterClose with
    | idle => exact .inl ⟨rfl, rfl⟩
    | stopped => cases a <;> simp

/-! ### The Engine -/

/-- What the Engine's turn is: nothing while a request waits or the loop is inactive, the pending
command, or the next stage. -/
theorem engineTurn_cases (s : State) :
    s.xfer ≠ .none ∧ engineTurn s = .next s ∨
    (∃ w, s.xfer = .none ∧ s.pending = some w ∧ s.oneShot = false ∧
      engineTurn s = commandStep w s) ∨
    (s.xfer = .none ∧ (s.pending = none ∨ s.oneShot = true) ∧ engineTurn s = loopTurn s) := by
  unfold engineTurn
  cases hx : s.xfer <;> simp only [ne_eq, reduceCtorEq, not_false_eq_true, not_true_eq_false,
    true_and, false_and, false_or, exists_false, or_false]
  cases hp : s.pending with
  | none => exact .inr ⟨.inl rfl, rfl⟩
  | some w =>
    cases ho : s.oneShot with
    | false => exact .inl ⟨w, rfl, rfl, by simp⟩
    | true => exact .inr ⟨.inr rfl, by simp⟩

/-- The Engine's turn on a pending command that has not started. -/
theorem engineTurn_command {s : State} {w : Word} (hx : s.xfer = .none) (hp : s.pending = some w)
    (ho : s.oneShot = false) : engineTurn s = commandStep w s := by
  simp [engineTurn, hx, hp, ho]

theorem commandStep_ok {s : State} {w : Word} {i : Instr} (h : decodeWord w = .ok i) :
    commandStep w s = exec i s := by
  simp [commandStep, h]

theorem commandStep_error {s : State} {w : Word} {e : DecodeError} (h : decodeWord w = .error e) :
    commandStep w s = .next (complete .illegal s) := by
  simp [commandStep, h]

/-- A command step never stops. -/
theorem commandStep_proceeds (w : Word) (s : State) : ∃ t, commandStep w s = .next t := by
  cases h : decodeWord w with
  | ok i => rw [commandStep_ok h]; exact exec_proceeds i s
  | error e => exact ⟨_, commandStep_error h⟩

/-! ### One step -/

theorem step_scheduled {s : State} {t : Turn} {rest : List Turn} (h : s.env.agenda = t :: rest) :
    step s = takeTurn t (scheduled rest s) := by
  simp [step, h]

theorem step_unscheduled {s : State} (h : s.env.agenda = []) :
    step s = takeTurn (ownTurn s) (unscheduled s) := by
  simp [step, h]

/-- A step is one turn, taken in a state that differs from `s` only in its surroundings. -/
theorem step_is_turn (s : State) :
    ∃ (t : Turn) (e : Env), step s = takeTurn t { s with env := e } ∧ e.resetPin = s.env.resetPin ∧
      e.busOut = s.env.busOut ∧ s.env.now.toNat ≤ e.now.toNat := by
  cases h : s.env.agenda with
  | cons t rest => exact ⟨t, _, step_scheduled h, rfl, rfl, Nat.le_refl _⟩
  | nil =>
    refine ⟨ownTurn s, (unscheduled s).env, step_unscheduled h, rfl, rfl, ?_⟩
    simp only [unscheduled, clockTurn]
    split <;> omega

/-- The turn of each agent while the reset input is released. -/
theorem takeTurn_released {t : Turn} {s : State} (h : s.env.resetPin = false) :
    takeTurn t s =
      match t with
      | .engine => engineTurn s
      | .host a => .next (hostTurn a s)
      | .transport a => .next (transportTurn a s)
      | .clock x => .next (clockTurn x s)
      | .resetPin a => .next (resetPinTurn a s) := by
  cases t <;> simp [takeTurn, h]

/-- While the reset input is asserted every turn answers a next state. -/
theorem takeTurn_asserted {t : Turn} {s : State} (h : s.env.resetPin = true) :
    takeTurn t s = .next (turnInReset t s) := by
  simp [takeTurn, h]

end Sys2Proof.Machine
end

