-- ==== Sys2Proof/Laws/Word.lean ====
section
/-! SUPPORT. The small lemmas of the per-channel vector. -/

namespace Sys2Proof

@[simp] theorem Six.get_ofFn {α : Type} (f : Channel → α) (ch : Channel) :
    (Six.ofFn f).get ch = f ch := by
  fin_cases ch <;> rfl

@[simp] theorem Six.get_all {α : Type} (x : α) (ch : Channel) : (Six.all x).get ch = x := by
  simp [Six.all]

theorem Six.get_set {α : Type} (v : Six α) (ch c : Channel) (x : α) :
    (v.set ch x).get c = if c = ch then x else v.get c := by
  simp [Six.set]

@[simp] theorem Six.get_set_self {α : Type} (v : Six α) (ch : Channel) (x : α) :
    (v.set ch x).get ch = x := by
  simp [Six.set]

theorem Six.ext_get {α : Type} {v w : Six α} (h : ∀ ch, v.get ch = w.get ch) : v = w := by
  cases v; cases w
  have h0 := h 0; have h1 := h 1; have h2 := h 2; have h3 := h 3; have h4 := h 4; have h5 := h 5
  simp only [Six.get] at h0 h1 h2 h3 h4 h5
  subst h0 h1 h2 h3 h4 h5
  rfl

@[simp] theorem Six.ofFn_get {α : Type} (v : Six α) : Six.ofFn v.get = v :=
  Six.ext_get fun ch => by simp

theorem Six.anyCh_iff (p : Channel → Bool) : Six.anyCh p = true ↔ ∃ ch, p ch = true := by
  simp only [Six.anyCh, Bool.or_eq_true]
  constructor
  · rintro (((((h | h) | h) | h) | h) | h) <;> exact ⟨_, h⟩
  · rintro ⟨ch, h⟩
    fin_cases ch <;> simp_all

end Sys2Proof
end

