-- ==== Sys2Proof/Tests/Slice0.lean ====
section
/-! SUPPORT. Tests of the model: words decoded by hand from `30_encoding.md`, one step per test with
expected values from the examples of the rules and from `95_test_vectors.md`, and for each obligation
with hypotheses a concrete case that meets them. -/

namespace Sys2Proof.Tests

open Sys2Proof.Machine

/-! ### Small states -/

/-- `s` with `t` as the one turn scheduled. -/
def onTurn (t : Turn) (s : State) : State := { s with env := { s.env with agenda := [t] } }

/-- `s` in INITIALIZED with the link open. -/
def ready (s : State) : State :=
  { s with status := { s.status with state := .initialized, link := true } }

/-- `s` in RUNNING at stage `g`, the Engine's turn next. -/
def looping (g : Stage) (s : State) : State :=
  onTurn .engine { s with status := { s.status with state := .running, link := true, stage := g } }

/-- `s` in a CYCLE1 cycle at stage `g`, the Engine's turn next. -/
def oneCycle (g : Stage) (s : State) : State :=
  onTurn .engine { s with
    status := { s.status with state := .initialized, link := true, busy := true, stage := g }
    pending := some 0x54, oneShot := true }

/-- `s` with the command word `w` issued and not yet executed. -/
def issued (w : Word) (s : State) : State :=
  { s with
    cfg := { s.cfg with cmd := w }, pending := some w, status := { s.status with busy := true } }

/-- `s` with `CTRL` = `c`. -/
def withCtrl (c : BitVec 4) (s : State) : State := { s with cfg := { s.cfg with ctrl := c } }

/-- `s` with the bytes `bs` at the start of `TXBUF`. -/
def withTx (bs : List Byte) (s : State) : State := { s with txbuf := memOfBytes 0 bs }

/-- `s` with a received frame `bs`. -/
def withRx (bs : List Byte) (s : State) : State :=
  { s with rxbuf := memOfBytes 0 bs, rxLen := BitVec.ofNat 8 bs.length }

/-- What `f` reads in the next state, if there is one. -/
def got {α : Type} (f : State → α) (o : Outcome) : Option α :=
  match o with
  | .next s => some (f s)
  | .fault _ => none
  | .refused _ => none

/-- The first `n` bytes of `TXBUF`. -/
def txBytes (n : Nat) (s : State) : List Byte := bytesFrom (memRead s.txbuf) 0 n

/-- Registers as the host reads them. -/
def regs (rs : List Reg) (s : State) : List Word := rs.map (readReg s)

/-! ### Well-formedness refuses -/

theorem test_wellFormed_refuses_cksump_length : (Instr.cksump .tx 256).wellFormed = false := by decide
theorem test_wellFormed_refuses_cksumf_length : (Instr.cksumf .rx 256).wellFormed = false := by decide
theorem test_wellFormed_refuses_valid_length : (Instr.valid .tx 256).wellFormed = false := by decide
theorem test_wellFormed_refuses_channel : (Instr.cvtv2e 8).wellFormed = false := by decide
theorem test_wellFormed_accepts_bounds : (Instr.cksump .tx 255).wellFormed = true ∧
    (Instr.cvtv2e 7).wellFormed = true := by decide

/-! ### Words written out from the formats of R70 and the map of R72 -/

theorem test_decode_nop : decodeWord 0b00000000000000000000000000000000#32 = .ok .nop := by decide
theorem test_decode_cksump :
    decodeWord 0b00000000_00010001_0000000_0_00000001#32 = .ok (.cksump .tx 17) := by decide
theorem test_decode_cksumf :
    decodeWord 0b00000000_11111111_0000000_1_00000010#32 = .ok (.cksumf .rx 255) := by decide
theorem test_decode_valid :
    decodeWord 0b00000000_00101001_0000000_1_00000011#32 = .ok (.valid .rx 41) := by decide
theorem test_decode_encpos : decodeWord 0b00010000#32 = .ok .encpos := by decide
theorem test_decode_encvolt : decodeWord 0b00010001#32 = .ok .encvolt := by decide
theorem test_decode_encraw : decodeWord 0b00010010#32 = .ok .encraw := by decide
theorem test_decode_decode : decodeWord 0b00100000#32 = .ok .decode := by decide
theorem test_decode_cvtd2r : decodeWord 0b00110000#32 = .ok .cvtd2r := by decide
theorem test_decode_cvtr2d : decodeWord 0b00110001#32 = .ok .cvtr2d := by decide
theorem test_decode_cvtv2e :
    decodeWord 0b000000000000000000000_101_00110010#32 = .ok (.cvtv2e 5) := by decide
theorem test_decode_cvtc2p : decodeWord 0b00110011#32 = .ok .cvtc2p := by decide
theorem test_decode_gen : decodeWord 0b01000000#32 = .ok .gen := by decide
theorem test_decode_ctlaw : decodeWord 0b01000001#32 = .ok .ctlaw := by decide
theorem test_decode_init : decodeWord 0b01010000#32 = .ok .init := by decide
theorem test_decode_start : decodeWord 0b01010001#32 = .ok .start := by decide
theorem test_decode_stop : decodeWord 0b01010010#32 = .ok .stop := by decide
theorem test_decode_reset : decodeWord 0b01010011#32 = .ok .reset := by decide
theorem test_decode_cycle1 : decodeWord 0b01010100#32 = .ok .cycle1 := by decide

/-- The illegal words of `95_test_vectors.md` 3.8. -/
theorem test_decode_illegal : decodeWord 0x00000060 = .error .unknownOpcode ∧
    decodeWord 0x00000110 = .error .reservedBits ∧ decodeWord 0x01110001 = .error .reservedBits ∧
    decodeWord 0x00000151 = .error .reservedBits := by decide

/-- The assembled words of R78 and of program 1. -/
theorem test_encode : encode (.cksump .tx 17) = 0x00110001 ∧ encode (.valid .rx 41) = 0x00290103 ∧
    encode (.valid .tx 17) = 0x00110003 ∧ encode (.cvtv2e 5) = 0x00000532 := by decide

theorem test_decodeTableWord : decodeTableWord 32 0x00290103 = some (.valid .rx 41) ∧
    decodeTableWord 32 0x60 = none := by decide

/-- From reset the word placed by `withFetchWord` is the next to run: START is refused in IDLE. -/
theorem test_withFetchWord :
    got (fun s => (s.err.cmdErr, s.ip, s.cfg.cmd)) (step (State.reset.withFetchWord 32 0x51)) =
      some (.state, 1, 0x51) := by decide

/-! ### Commands -/

/-- The 17-byte position frame of R106. -/
def positionFrame : List Byte :=
  [0x11, 0x50, 0x10, 0xCD, 0x0C, 0xCD, 0x0C, 0xCD, 0x0C, 0xCD, 0x0C, 0xCD, 0x0C, 0x33, 0xF3, 0x3D, 0xEF]

/-- The 41-byte telemetry frame of R115. -/
def telemetry : List Byte :=
  [0x29, 0x50, 0x10, 0xCD, 0x0C, 0x00, 0x00, 0x00, 0x00, 0x00, 0x00, 0x33, 0xF3, 0xFF, 0x00, 0xFF,
    0x7F, 0x00, 0x00, 0x00, 0x80, 0xFF, 0xFF, 0xE8, 0x03, 0x00, 0x00, 0x00, 0x00, 0x01, 0x07, 0x64,
    0x80, 0xFF, 0x21, 0x43, 0x65, 0x87, 0xA9, 0xCB, 0xE3]

/-- Six `CMDV` values. -/
def withCmdv (a b c d e f : Word) (s : State) : State := { s with cmdv := ⟨a, b, c, d, e, f⟩ }

theorem test_nop : got (fun s => (s.err.cmdErr, s.ip)) (exec .nop State.reset) = some (.none, 1) := by
  decide

set_option maxRecDepth 8000 in
/-- R89's example. -/
theorem test_cksump : got (·.result) (exec (.cksump .tx 17) (withTx positionFrame State.reset)) =
    some 0x3D := by decide

set_option maxRecDepth 8000 in
/-- R90's example, the source's six-byte scenario. -/
theorem test_cksumf :
    got (·.result) (exec (.cksumf .tx 6) (withTx [0x06, 0x00, 0x01, 0x00, 0x08] State.reset)) =
      some 0xF1 := by decide

set_option maxRecDepth 8000 in
/-- R115's frame is valid in `RXBUF`, so the checksum of its first 40 bytes is its last. -/
theorem test_cksumf_rx :
    got (·.result) (exec (.cksumf .rx 41) (withRx telemetry State.reset)) = some 0xE3 := by decide

/-- R91's example. -/
theorem test_valid_all_zero :
    got (fun s => (s.result, s.status.valid)) (exec (.valid .rx 8) State.reset) =
      some (0, false) := by decide

set_option maxRecDepth 8000 in
/-- Program 1: the encoded frame is valid. -/
theorem test_valid : got (fun s => (s.result, s.status.valid))
    (exec (.valid .tx 17) (withTx positionFrame State.reset)) = some (1, true) := by decide

set_option maxRecDepth 8000 in
/-- R106's example. -/
theorem test_encpos :
    got (fun s => (txBytes 17 s, s.result, s.txLen, s.status.range)) (exec .encpos
      (withCmdv 0xF0000 0xF0000 0xF0000 0xF0000 0xF0000 0xFFF10000 State.reset)) =
      some (positionFrame, 0xEF3D, 17, false) := by decide

set_option maxRecDepth 8000 in
/-- R107's example. -/
theorem test_encvolt :
    got (txBytes 17) (exec .encvolt (withCmdv 654877 0 1966588 (-19664006) 19664631 (-3221761)
      { State.reset with cfg := { Settings.reset with proto := 0x201050 } })) =
      some [0x11, 0x50, 0x20, 0x09, 0x00, 0x00, 0x00, 0x1E, 0x00, 0xD4, 0xFE, 0x2C, 0x01, 0xCF, 0xFF,
        0x9C, 0xEF] := by decide

set_option maxRecDepth 8000 in
/-- R108's example. -/
theorem test_encraw :
    got (fun s => (txBytes 6 s, s.result)) (exec .encraw
      { withTx [0x06, 0x00, 0x01, 0x00] State.reset with txLen := 6 }) =
      some ([0x06, 0x00, 0x01, 0x00, 0xFF, 0xFA], 0xFAFF) := by decide

set_option maxRecDepth 8000 in
/-- R115's example. -/
theorem test_decode_command :
    got (regs [.fbPos 0, .fbVel 0, .touch 0, .touch 1, .touch 2, .touch 3, .result, .seq])
      (exec .decode (withRx telemetry { State.reset with
        cfg := { Settings.reset with layout := 0x221C0403, layout2 := 0x00401 } })) =
      some [0x000F005A, 303, 0x321, 0x654, 0x987, 0xCBA, 1, 1] := by decide

/-- `s` with `CVT_IN` = `v`. -/
def withCvt (v : Word) (s : State) : State := { s with cfg := { s.cfg with cvtIn := v } }

/-- R99: a tie rounds away from zero. -/
theorem test_cvtd2r_tie : got (fun s => (s.cvtOut, s.status.range))
    (exec .cvtd2r (withCvt 0x004B0000 State.reset)) = some (16384, false) := by decide

/-- R99: -151 degrees is clamped with a range event. -/
theorem test_cvtd2r_range : got (fun s => (s.cvtOut, s.status.range, s.ip))
    (exec .cvtd2r (withCvt 0xFF690000 State.reset)) = some (0xFFFF8000, true, 0b10001) := by decide

/-- R100's example. -/
theorem test_cvtr2d : got (·.cvtOut) (exec .cvtr2d (withCvt 0xFFFF0CCD State.reset)) =
    some 0x000F005A := by decide

/-- R101's example. -/
theorem test_cvtv2e : got (·.cvtOut) (exec (.cvtv2e 5) (withCvt 1000 State.reset)) =
    some 100856 := by decide

/-- R102: byte 128 unsigned, and signed. -/
theorem test_cvtc2p : got (·.cvtOut) (exec .cvtc2p (withCvt 128 State.reset)) = some 647 ∧
    got (·.cvtOut) (exec .cvtc2p (withCvt 128
      { State.reset with cfg := { Settings.reset with layout2 := 0x40001 } })) =
      some (-647) := by decide

/-- `s` with the pointer generator. -/
def withPointer (p k : Word) (s : State) : State :=
  { s with cfg := { s.cfg with ctrl := 8, ptrIn := p, ptrSens := k } }

/-- R123: the pointer saturates, and channel 5 is negated. -/
theorem test_gen_pointer : got (fun s => (s.tgt.get 0, s.tgt.get 5, s.status.range))
    (exec .gen (withPointer 0x7FFFFFFF 1 State.reset)) =
      some (0x7FFFFFFF, 0x80000001, true) := by decide

/-- R123's example of the wave, channel 0, exact for every sine. -/
theorem test_gen_wave :
    waveTarget { withCtrl 4 State.reset with phase := 0x40000000 } 0 = 0x00348000 := by decide

/-- R124's example. -/
theorem test_ctlaw : got (fun s => s.cmdv.get 0) (exec .ctlaw { State.reset with
    cfg := { Settings.reset with kGain := 0x20000 }
    tgt := (Six.all 0).set 0 0x140000
    fb := { Feedback.reset with pos := (Six.all 0).set 0 983130, vel := (Six.all 0).set 0 303 } }) =
      some 0x0009FE1D := by decide

/-- R138's example: INIT from reset, answered OK. -/
theorem test_init : got (fun s => readReg s .status) (step (onTurn (.transport (.ok []))
    { issued 0x50 State.reset with xfer := .opening })) = some 0x00002001 := by decide

/-- `95_test_vectors.md` 3.7: INIT answered INIT_FAIL. -/
theorem test_init_fail : got (regs [.status, .err, .ip]) (step (onTurn (.transport .initFail)
    { issued 0x50 State.reset with xfer := .opening })) =
      some [0x00000003, 0x00000505, 0x00000005] := by decide

/-- R140's example. -/
theorem test_start : got (regs [.status, .cycleCnt]) (exec .start (issued 0x51 (ready State.reset))) =
    some [0x00002002, 0] := by decide

/-- R141's example: STOP in RUNNING completes at once. -/
theorem test_stop : got (fun s => (s.status.stopReq, s.status.busy)) (exec .stop
    (issued 0x52 (looping .encode State.reset))) = some (true, false) := by decide

/-- `95_test_vectors.md` 3.7: STOP in INITIALIZED with the close answered FAIL. -/
theorem test_stop_close_fail : got (regs [.status, .err]) (step (onTurn (.transport .fail)
    { issued 0x52 (ready State.reset) with xfer := .closing })) =
      some [0x00000003, 0x00000707] := by decide

/-- R143's example. -/
theorem test_reset : got (regs [.status, .err, .ip]) (exec .reset { issued 0x53 State.reset with
    status := { Status.reset with state := .stopped, busy := true }
    err := { cmdErr := .none, fatalCode := .exchangeFail, fatalStage := .exchange } }) =
      some [0, 0, 1] := by decide

/-- R144: the first step of CYCLE1. -/
theorem test_cycle1 : got (fun s => (s.oneShot, s.status.stage, s.status.busy))
    (exec .cycle1 (issued 0x54 (ready State.reset))) = some (true, .sample, true) := by decide

/-- `95_test_vectors.md` 3.7: CYCLE1 whose exchange is answered FAIL. -/
theorem test_cycle1_exchange_fail : got (regs [.status, .err, .ip]) (step (onTurn (.transport .fail)
    { oneCycle .exchange State.reset with xfer := .exchange [] })) =
      some [0x00000003, 0x00005606, 0x00000005] := by decide

/-! ### Loop stages and the host bus -/

/-- Program 4, cycle 1: SAMPLE at tick 20 with the origin at 10. -/
theorem test_stage_sample : got (fun s => (s.ta, s.elapsed, s.status.stage)) (step (looping .sample
    { State.reset with t0 := 10, env := { Env.reset with now := 20 } })) =
      some (20, 10, .generate) := by decide

set_option maxRecDepth 8000 in
/-- Program 5: the frame that the reset configuration sends. -/
theorem test_stage_encode : got (txBytes 17) (step (looping .encode State.reset)) =
    some [0x11, 0x50, 0x10, 0, 0, 0, 0, 0, 0, 0, 0, 0, 0, 0, 0, 0xA0, 0xEF] := by decide

/-- `95_test_vectors.md` 3.7: a valid frame too short is fatal, with VALID set. -/
theorem test_stage_decode_unpack : got (fun s => (readReg s .err, s.status.valid)) (step
    (looping .decode (withRx [0x01, 0xFF] State.reset))) = some (0x00006800, true) := by decide

/-- `95_test_vectors.md` 3.8: CTRL in RUNNING, an unmapped and an unaligned read, ID. -/
theorem test_bus :
    got (fun s => (s.cfg.ctrl, s.status.collide))
      (step (onTurn (.host (.write 0x004 32 1)) (looping .pace State.reset))) = some (0, true) ∧
    got (fun s => (s.env.busOut, s.status.busErr))
      (step (onTurn (.host (.read 0x070 32)) State.reset)) = some (0, true) ∧
    got (fun s => (s.env.busOut, s.status.busErr))
      (step (onTurn (.host (.read 0x002 32)) State.reset)) = some (0, true) ∧
    got (·.env.busOut) (step (onTurn (.host (.read 0x000 32)) State.reset)) =
      some 0x48500007 := by decide


/-! ### Cases that meet the hypotheses of the obligations

Each theorem is named after the obligation whose hypotheses it meets, at the bounds of its clauses. -/

/-- The reset state with `s.cfg` replaced. -/
def configured (c : Settings) : State := { State.reset with cfg := c }

theorem wit_DecodeEncodeAgree :
    decodeWord 0x00FF0101 = .ok (.cksump .rx 255) ∧ (Instr.cksump .rx 255).WellFormed ∧
    encode (.cksump .rx 255) = 0x00FF0101 ∧ decodeWord 0x732 = .ok (.cvtv2e 7) ∧
    (Instr.cvtv2e 7).WellFormed ∧ encode (.cvtv2e 7) = 0x732 := by decide

theorem wit_IllegalWordRefused :
    (∃ i : Instr, (0x00FF0101 : Word) &&& (matchMask i).2 = (matchMask i).1) ∧
    (∀ i : Instr, (0x00000110 : Word) &&& (matchMask i).2 ≠ (matchMask i).1) ∧
    NextTurn .engine [] (onTurn .engine (issued 0x110 State.reset)) ∧
    (onTurn .engine (issued 0x110 State.reset)).pending = some 0x110 :=
  ⟨⟨.cksump .rx 255, by decide⟩, fun i => by cases i <;> (simp only [matchMask]; decide), ⟨rfl, rfl⟩, rfl⟩

theorem wit_StepRunsDecodedCommand :
    (onTurn .engine (issued 0x51 State.reset)).env.agenda = [.engine] ∧
    (issued 0x51 State.reset).env.agenda = [] ∧ (issued 0x51 State.reset).pending = some 0x51 ∧
    decodeWord 0x51 = .ok .start := by decide

theorem wit_WrongStateRefused : allowedIn .start State.reset.status.state = false ∧
    allowedIn .nop (issued 0 State.reset).status.state = true ∧
    (issued 0 State.reset).pending.isSome = true ∧
    got (·.pending) (exec .nop (issued 0 State.reset)) = some none := by decide

theorem wit_FailedCommandWritesNothing : (issued 0x51 State.reset).pending.isSome = true ∧
    got (fun t => (t.pending, t.err.cmdErr)) (exec .start (issued 0x51 State.reset)) =
      some (none, .state) := by decide

theorem wit_OperandOutOfRangeRefused : State.reset.status.state ≠ .running ∧ 64 < 65 ∧ 128 < 129 ∧
    5 < 6 ∧ ({ State.reset with txLen := 4 } : State).txLen.toNat < 5 ∧
    64 < ({ State.reset with txLen := 65 } : State).txLen.toNat ∧
    (withCtrl 0xC State.reset).cfg.ctrl.extractLsb' 2 2 = 3#2 ∧
    (withCtrl 0x8 State.reset).cfg.ctrl.extractLsb' 2 2 = 2#2 ∧
    (withCtrl 0x8 State.reset).cfg.ptrSens = 0 := by decide

/-- `TOUCH_COUNT` = 65, one more than the array holds. -/
def touches65 : State := configured { Settings.reset with layout2 := 0x04101 }

theorem wit_ShortDecodeRefused : touches65.status.state ≠ .running ∧
    128 < ({ State.reset with rxLen := 129 } : State).rxLen.toNat ∧
    64 < (touches65.cfg.layout2.extractLsb' 8 8).toNat ∧
    bytesNeeded { State.reset with rxLen := 25 } = 26 ∧
    ({ State.reset with rxLen := 25 } : State).rxLen.toNat < 26 := by decide

/-- `POS_OFF` = 107: the decode needs 129 bytes. -/
def needs129 : State := configured { Settings.reset with layout := 0x0000006B }

/-- VOLT_CL mode with the given `RX_LEN`. -/
def closedLoop (L : BitVec 8) : State := withCtrl 0x2 { State.reset with rxLen := L }

theorem wit_BadConfigurationRefused : (ready State.reset).status.state = .initialized ∧
    ConfigRefused (ready (withCtrl 0xC State.reset)) ∧
    ConfigRefused (ready (withCtrl 0x8 State.reset)) ∧
    ConfigRefused (ready (withCtrl 0x3 { State.reset with txLen := 4 })) ∧
    ConfigRefused (ready (withCtrl 0x3 { State.reset with txLen := 65 })) ∧
    ConfigRefused (ready touches65) ∧ ConfigRefused (ready needs129) ∧
    Cycle1Refused (ready needs129) ∧ Cycle1Refused (ready (closedLoop 129)) ∧
    ¬ ConfigRefused (ready (closedLoop 129)) :=
  ⟨rfl, by decide, by decide, by decide, by decide, by decide, by decide, by decide, by decide,
    by decide⟩

/-- The longest ranges of the two buffers, and the empty one. -/
theorem wit_ChecksumCommandsNegateSum : (withRx telemetry State.reset).status.state ≠ .running ∧
    ((Buf.tx = .tx ∧ 64 ≤ 64) ∧ (Buf.rx = .rx ∧ 128 ≤ 128)) ∧ 0 ≤ 64 ∧
    memRead (withRx telemetry State.reset).rxbuf 40 = 0xE3 ∧
    memRead (withRx telemetry State.reset).txbuf 40 = 0 := by decide

theorem wit_ValidReportsFrame : (ready (withRx telemetry State.reset)).status.state ≠ .running ∧
    (Buf.tx = .tx ∧ 64 ≤ 64) ∧ (Buf.rx = .rx ∧ 128 ≤ 128) := by decide

theorem wit_SealedFrameValidates : Memory.wf Config.txMax [(0, 6), (63, 1)] = true ∧ 2 ≤ 2 ∧
    64 ≤ Config.txMax ∧ (0x01 : Byte) ≠ 0x02 ∧ 1 ≤ 1 ∧ 1 < 4 - 2 ∧ 2 < 4 - 1 := by decide

theorem wit_RoundingIsNearest : (-2 : Int) ≠ 0 ∧ rhaz 3 (-2) = -2 ∧ rhaz 1 2 = 1 := by decide

theorem wit_DegreesToRawClamps :
    (withCvt 0x00960000 State.reset).status.state ≠ .running ∧
    |(withCvt 0x00960000 State.reset).cfg.cvtIn.toInt| ≤ 9830400 := by decide

theorem wit_RawConversionsRoundOnce : (withCvt 1000 State.reset).status.state ≠ .running ∧ 4 < 5 := by
  decide

theorem wit_DegreeRoundTrip : |(9830400 : Int)| ≤ 150 * 65536 ∧ |(-9830400 : Int)| ≤ 150 * 65536 := by
  decide

theorem wit_EncposBuildsFrame : (withTx positionFrame State.reset).status.state ≠ .running ∧
    (withTx positionFrame State.reset).txbuf.wf Config.txMax = true := by decide

theorem wit_EncvoltBuildsFrame : (ready State.reset).status.state ≠ .running ∧
    (ready State.reset).txbuf.wf Config.txMax = true := by decide

theorem wit_EncrawSealsFrame : ∀ L ∈ [(5 : BitVec 8), 64],
    ({ State.reset with txLen := L } : State).status.state ≠ .running ∧
    ({ State.reset with txLen := L } : State).txbuf.wf Config.txMax = true ∧
    5 ≤ L.toNat ∧ L.toNat ≤ 64 := by decide

/-- A decode that needs exactly `RX_MAX` bytes: 64 touch values from byte 32 on. -/
def fullDecode : State :=
  { configured { Settings.reset with layout := 0x20000403, layout2 := 0x04001 } with rxLen := 128 }

theorem wit_DecodePublishesFeedback : fullDecode.status.state ≠ .running ∧
    fullDecode.rxLen.toNat ≤ 128 ∧ (fullDecode.cfg.layout2.extractLsb' 8 8).toNat ≤ 64 ∧
    bytesNeeded fullDecode ≤ fullDecode.rxLen.toNat ∧
    bytesNeeded { State.reset with rxLen := 26 } ≤ 26 := by decide

theorem wit_TouchPackUnpack : 1 < [(0x321 : BitVec 12), 0x654].length ∧
    unpack12 true (pack12 true [0x321, 0x654]) 0 1 = 0x654 := by decide

theorem wit_GenWritesTarget : State.reset.cfg.ctrl.extractLsb' 2 2 = 0#2 ∧
    (withCtrl 0x4 State.reset).cfg.ctrl.extractLsb' 2 2 = 1#2 ∧
    (withPointer 1 1 State.reset).cfg.ctrl.extractLsb' 2 2 = 2#2 ∧
    (withPointer 1 1 State.reset).cfg.ptrSens ≠ 0 ∧
    (withPointer 1 1 State.reset).status.state ≠ .running := by decide

theorem wit_CtlawWritesCommand : (ready State.reset).status.state ≠ .running := by decide

theorem wit_CtlawZeroAtTarget :
    let s : State := { State.reset with
      tgt := Six.all 5, fb := { Feedback.reset with pos := Six.all 5 } }
    (∀ ch, s.tgt.get ch = s.fb.pos.get ch) ∧ ∀ ch, s.fb.vel.get ch = 0 := by decide

/-- RAW mode with the shortest and the longest frame. -/
def rawOf (L : BitVec 8) : State := withCtrl 0x3 { State.reset with txLen := L }

theorem accepted_reset : ¬ ConfigRefused (ready State.reset) := by decide

theorem accepted_raw : ∀ L ∈ [(5 : BitVec 8), 64], ¬ ConfigRefused (ready (rawOf L)) := by
  decide

theorem wit_InitAndCycle1Start : State.reset.status.state = .idle ∧
    (ready State.reset).status.state = .initialized ∧ ¬ Cycle1Refused (ready State.reset) ∧
    ¬ Cycle1Refused (ready (closedLoop 128)) ∧
    ¬ Cycle1Refused (ready { State.reset with rxLen := 129 }) :=
  ⟨rfl, rfl, by decide, by decide, by decide⟩

theorem wit_OpenAnswer : ∀ a ∈ [Answer.ok [], .fail, .initFail],
    NextTurn (.transport a) [] (onTurn (.transport a) { issued 0x50 State.reset with xfer := .opening }) :=
  fun _ _ => ⟨rfl, rfl⟩

theorem wit_StartEntersRunning : (ready (rawOf 64)).status.state = .initialized ∧
    ¬ ConfigRefused (ready (rawOf 64)) := ⟨rfl, accepted_raw 64 (by decide)⟩

theorem wit_StopRequests : (looping .pace State.reset).status.state = .running ∧
    (ready State.reset).status.state = .initialized := by decide

theorem wit_ResetClears : State.reset.status.state = .idle ∧
    ({ State.reset with status := { Status.reset with state := .stopped } } : State).status.state =
      .stopped ∧ (ready State.reset).status.state = .initialized := by decide

/-- A stage of a running loop is the Engine's next. -/
theorem atStage_looping (g : Stage) (s : State) (hr : s.env.resetPin = false) (hx : s.xfer = .none)
    (hp : s.pending = none) : AtStage g [] (looping g s) :=
  ⟨⟨rfl, hr⟩, hx, .inl hp, .inl rfl, rfl⟩

/-- A stage of a CYCLE1 cycle is the Engine's next. -/
theorem atStage_oneCycle (g : Stage) (s : State) (hr : s.env.resetPin = false) (hx : s.xfer = .none) :
    AtStage g [] (oneCycle g s) :=
  ⟨⟨rfl, hr⟩, hx, .inr rfl, .inr rfl, rfl⟩

/-- A cycle with `PERIOD` = 10 sampled at tick 5, the Clock now at `n`. -/
def pacing (n : Ticks) : State :=
  { configured { Settings.reset with period := 10 } with ta := 5, env := { Env.reset with now := n } }

theorem wit_BoundaryAndPaceStages : AtStage .boundary [] (looping .boundary State.reset) ∧
    AtStage .pace [] (looping .pace (pacing 14)) ∧ AtStage .pace [] (looping .pace (pacing 15)) ∧
    (pacing 14).env.now.toNat < (pacing 14).ta.toNat + (pacing 14).cfg.period.toNat ∧
    (pacing 15).ta.toNat + (pacing 15).cfg.period.toNat ≤ (pacing 15).env.now.toNat :=
  ⟨atStage_looping _ _ rfl rfl rfl, atStage_looping _ _ rfl rfl rfl, atStage_looping _ _ rfl rfl rfl,
    by decide, by decide⟩

theorem wit_AgentsWithoutStep :
    NextTurn .engine [] (onTurn .engine { issued 0x50 State.reset with xfer := .opening }) ∧
    NextTurn .engine [] (onTurn .engine State.reset) ∧ State.reset.pending = none ∧
    NextTurn (.transport .fail) [] (onTurn (.transport .fail) State.reset) ∧
    NextTurn (.clock 14) [] (onTurn (.clock 14) (pacing 15)) ∧
    (14 : Ticks).toNat < (pacing 15).env.now.toNat ∧
    NextTurn (.clock 15) [] (onTurn (.clock 15) (pacing 15)) ∧
    (pacing 15).env.now.toNat ≤ (15 : Ticks).toNat ∧
    got (·.env.now) (step (onTurn (.clock 16) (pacing 15))) = some 16 :=
  ⟨⟨rfl, rfl⟩, ⟨rfl, rfl⟩, rfl, ⟨rfl, rfl⟩, ⟨rfl, rfl⟩, by decide, ⟨rfl, rfl⟩, by decide, by decide⟩

theorem wit_SampleStage : AtStage .sample [] (oneCycle .sample (pacing 20)) :=
  atStage_oneCycle _ _ rfl rfl

theorem wit_GenerateStage : AtStage .generate [] (looping .generate (rawOf 5)) ∧
    (rawOf 5).cfg.ctrl.extractLsb' 0 2 = 3#2 ∧
    AtStage .generate [] (oneCycle .generate State.reset) ∧
    State.reset.cfg.ctrl.extractLsb' 0 2 ≠ 3#2 ∧ ¬ ConfigRefused (oneCycle .generate State.reset) :=
  ⟨atStage_looping _ _ rfl rfl rfl, by decide, atStage_oneCycle _ _ rfl rfl, by decide, accepted_reset⟩

/-- A valid received frame of two bytes. -/
theorem validates_two : Validates (memRead (withRx [0x01, 0xFF] State.reset).rxbuf) 2 :=
  ⟨by decide, 0, by decide, by decide⟩

/-- An empty receive buffer is no valid frame. -/
theorem not_validates_empty : ¬ Validates (memRead State.reset.rxbuf) 0 :=
  fun ⟨_, _, h, _⟩ => Nat.not_lt_zero _ h

theorem wit_ControlStage : AtStage .control [] (looping .control State.reset) ∧
    (withCtrl 1 State.reset).cfg.ctrl.extractLsb' 0 2 = 1#2 ∧
    (withCtrl 2 State.reset).cfg.ctrl.extractLsb' 0 2 = 2#2 ∧
    (withRx [0x01, 0xFF] State.reset).rxLen.toNat ≤ 128 ∧
    Validates (memRead (withRx [0x01, 0xFF] State.reset).rxbuf) 2 ∧
    ¬ Validates (memRead State.reset.rxbuf) State.reset.rxLen.toNat :=
  ⟨atStage_looping _ _ rfl rfl rfl, by decide, by decide, by decide, validates_two, not_validates_empty⟩

theorem wit_EncodeStage : AtStage .encode [] (looping .encode State.reset) ∧
    State.reset.txbuf.wf Config.txMax = true ∧ State.reset.cfg.ctrl.extractLsb' 0 2 = 0#2 ∧
    AtStage .encode [] (oneCycle .encode (rawOf 5)) ∧ 5 ≤ (rawOf 5).txLen.toNat ∧
    (rawOf 64).txLen.toNat ≤ 64 :=
  ⟨atStage_looping _ _ rfl rfl rfl, by decide, by decide, atStage_oneCycle _ _ rfl rfl, by decide, by decide⟩

theorem wit_ExchangeRequest : AtStage .exchange [] (looping .exchange (rawOf 64)) ∧
    (rawOf 64).txLen.toNat ≤ 64 := ⟨atStage_looping _ _ rfl rfl rfl, by decide⟩

set_option maxRecDepth 8000 in
theorem wit_ExchangeAnswer :
    NextTurn (.transport (.ok (List.replicate 128 7))) []
      (onTurn (.transport (.ok (List.replicate 128 7)))
        { looping .exchange State.reset with xfer := .exchange [1] }) ∧
    (List.replicate 128 (7 : Byte)).length ≤ 128 ∧
    ({ looping .exchange State.reset with xfer := .exchange [1] } : State).oneShot = false ∧
    (oneCycle .exchange State.reset).oneShot = true := ⟨⟨rfl, rfl⟩, by decide, rfl, rfl⟩

/-- A frame of 26 bytes, as many as the reset layout needs, with the bytes 1 and 0xFF first. -/
def frame26 : List Byte := 0x01 :: 0xFF :: List.replicate 24 0

theorem validates_26 : Validates (memRead (withRx frame26 State.reset).rxbuf) 26 :=
  ⟨by decide, 0, by decide, by decide⟩

theorem wit_DecodeStageInRunning : AtStage .decode [] (looping .decode (withRx frame26 State.reset)) ∧
    (withRx frame26 State.reset).oneShot = false ∧ (withRx frame26 State.reset).rxLen.toNat ≤ 128 ∧
    Validates (memRead (withRx frame26 State.reset).rxbuf) (withRx frame26 State.reset).rxLen.toNat ∧
    bytesNeeded (withRx frame26 State.reset) ≤ (withRx frame26 State.reset).rxLen.toNat ∧
    Validates (memRead (withRx [0x01, 0xFF] State.reset).rxbuf) 2 ∧
    2 < bytesNeeded (withRx [0x01, 0xFF] State.reset) ∧
    ¬ Validates (memRead State.reset.rxbuf) State.reset.rxLen.toNat :=
  ⟨atStage_looping _ _ rfl rfl rfl, rfl, by decide, validates_26, by decide, validates_two, by decide,
    not_validates_empty⟩

theorem wit_DecodeStageEndsCycle1 :
    AtStage .decode [] (oneCycle .decode (withRx frame26 State.reset)) ∧
    (oneCycle .decode (withRx frame26 State.reset)).oneShot = true ∧
    (oneCycle .decode (withRx frame26 State.reset)).rxLen.toNat ≤ 128 ∧
    Validates (memRead (withRx frame26 State.reset).rxbuf) (withRx frame26 State.reset).rxLen.toNat ∧
    bytesNeeded (withRx frame26 State.reset) ≤ 26 ∧
    Validates (memRead (withRx [0x01, 0xFF] State.reset).rxbuf) 2 ∧
    2 < bytesNeeded (withRx [0x01, 0xFF] State.reset) ∧
    ¬ Validates (memRead State.reset.rxbuf) State.reset.rxLen.toNat :=
  ⟨atStage_oneCycle _ _ rfl rfl, rfl, by decide, validates_26, by decide, validates_two, by decide,
    not_validates_empty⟩

/-- A RESET and a STOP that wait for the answer to CLOSE, and the loop's own CLOSE. -/
theorem wit_CloseAnswer : ∀ a ∈ [Answer.ok [], .fail],
    NextTurn (.transport a) [] (onTurn (.transport a)
      { issued 0x53 (ready State.reset) with xfer := .closing, afterClose := .idle }) ∧
    NextTurn (.transport a) [] (onTurn (.transport a)
      { issued 0x52 (ready State.reset) with xfer := .closing }) ∧
    NextTurn (.transport a) [] (onTurn (.transport a)
      { looping .boundary State.reset with xfer := .closing }) :=
  fun _ _ => ⟨⟨rfl, rfl⟩, ⟨rfl, rfl⟩, ⟨rfl, rfl⟩⟩

/-- INITIALIZED with the reset configuration and the command word `w` issued. -/
def initialized (w : Word) : State := issued w (ready State.reset)

/-- The invariant holds in INITIALIZED with a command issued. -/
theorem inv_initialized (w : Word) (ts : List Turn) :
    Inv { initialized w with env := { Env.reset with agenda := ts } } where
  txWf := rfl
  rxWf := rfl
  busy := rfl
  link := ⟨fun _ => .inl rfl, fun _ => rfl⟩
  stopReq h := nomatch h
  stage _ := rfl
  oneShot h := nomatch h
  opening h := nomatch h
  exchange _ h := nomatch h
  closing h := nomatch h
  config h := by rcases h with h | h <;> cases h
  frame h := by rcases h with h | h <;> cases h
  rxLen h := by rcases h with h | h <;> simp [initialized, issued, ready, State.reset, State.resetIn] at h
  fatal h := absurd rfl h
  clock := ⟨Nat.le_refl 0, Nat.le_refl 0⟩

/-- The eight turns of a CYCLE1 command that is answered with `rx`. -/
def cycle1Turns (rx : List Byte) : List Turn :=
  [.engine, .engine, .engine, .engine, .engine, .engine, .transport (.ok rx), .engine]

/-- Answers of 26 and of 2 valid bytes, of no bytes, and of the most bytes there can be. -/
theorem wit_Cycle1RunsToEnd : ∀ rx ∈ [frame26, [0x01, 0xFF], [], List.replicate 128 0],
    let s : State := { initialized 0x54 with env := { Env.reset with agenda := cycle1Turns rx } }
    Inv s ∧ s.env.resetPin = false ∧ s.status.state = .initialized ∧ s.xfer = .none ∧
      s.oneShot = false ∧ s.pending = some 0x54 ∧ ¬ Cycle1Refused s ∧ rx.length ≤ 128 ∧
      s.env.agenda = .engine :: .engine :: .engine :: .engine :: .engine :: .engine ::
        .transport (.ok rx) :: .engine :: [] := by
  intro rx hrx
  have hlen : rx.length ≤ 128 := by
    simp only [List.mem_cons, List.not_mem_nil, or_false] at hrx
    rcases hrx with rfl | rfl | rfl | rfl <;> simp [frame26]
  exact ⟨inv_initialized 0x54 (cycle1Turns rx), rfl, rfl, rfl, rfl, rfl, (by decide : ¬ Cycle1Refused (ready State.reset)), hlen, rfl⟩

/-- The answers of 26, of 2 and of no bytes fall under the three clauses on what follows. -/
theorem wit_Cycle1RunsToEnd_clauses : bytesNeeded State.reset = 26 ∧
    (Validates (fun k => frame26.getD k 0) frame26.length ∧ 26 ≤ frame26.length) ∧
    (Validates (fun k => [(0x01 : Byte), 0xFF].getD k 0) 2 ∧ 2 < 26) ∧
    ¬ Validates (fun k => ([] : List Byte).getD k 0) 0 :=
  ⟨by decide, ⟨⟨by decide, 0, by decide, by decide⟩, by decide⟩,
    ⟨⟨by decide, 0, by decide, by decide⟩, by decide⟩, fun ⟨_, _, h, _⟩ => Nat.not_lt_zero _ h⟩

theorem wit_CommandIssue :
    NextTurn (.host (.write 0x00C 32 7)) [] (onTurn (.host (.write 0x00C 32 7)) State.reset) ∧
    State.reset.status.busy = false ∧ (issued 0x50 State.reset).status.busy = true ∧
    NextTurn (.host (.write 0x00C 32 7)) [] (onTurn (.host (.write 0x00C 32 7)) (issued 0x50 State.reset)) :=
  ⟨⟨rfl, rfl⟩, rfl, rfl, ⟨rfl, rfl⟩⟩

/-- The bounds of the map: the last offsets listed, and the first ones after each window. -/
theorem wit_BadAccessSetsBuserr : ¬ Mapped 0x06C ∧ ¬ Mapped 0x098 ∧ ¬ Mapped 0x178 ∧ ¬ Mapped 0x1FC ∧
    ¬ Mapped 0x300 ∧ ¬ Mapped 0x440 ∧ ¬ Mapped 0x580 ∧ ¬ Mapped 0xFFC ∧ 0x002 % 4 ≠ 0 ∧ 8 ≠ 32 ∧
    NextTurn (.host (.read 0x06C 32)) [] (onTurn (.host (.read 0x06C 32)) State.reset) ∧
    NextTurn (.host (.write 0x580 32 1)) [] (onTurn (.host (.write 0x580 32 1)) State.reset) :=
  ⟨by decide, by decide, by decide,
    by decide, by decide, by decide,
    by decide, by decide, by decide, by decide, ⟨rfl, rfl⟩, ⟨rfl, rfl⟩⟩

theorem wit_ReadsChangeNothing : 0x57C % 4 = 0 ∧ Mapped 0x57C ∧ Mapped 0x000 ∧ Mapped 0x068 ∧
    Mapped 0x2FC ∧
    NextTurn (.host (.read 0x57C 32)) [] (onTurn (.host (.read 0x57C 32)) State.reset) :=
  ⟨by decide, by decide, by decide, by decide,
    by decide, ⟨rfl, rfl⟩⟩

theorem wit_ClosedGateDropsWrite : (∃ m, (0x0D4, m) ∈ gatedRegisters) ∧
    (∃ w < 16, 0x43C = 0x400 + 4 * w) ∧ (∃ w < 32, 0x57C = 0x500 + 4 * w) ∧
    (looping .pace State.reset).status.state = .running ∧ (issued 0 State.reset).status.busy = true ∧
    NextTurn (.host (.write 0x43C 32 1)) []
      (onTurn (.host (.write 0x43C 32 1)) (looping .pace State.reset)) :=
  ⟨⟨0xFFFFFFFF, by decide⟩, ⟨15, by decide⟩, ⟨31, by decide⟩, rfl, rfl, ⟨rfl, rfl⟩⟩

/-- The first and the last offsets of the read-only registers. -/
theorem wit_ClosedGateDropsWrite_readOnly : ReadOnlyAt 0x000 ∧ ReadOnlyAt 0x054 ∧ ReadOnlyAt 0x0A0 ∧
    ReadOnlyAt 0x174 ∧ ReadOnlyAt 0x200 ∧ ReadOnlyAt 0x2FC ∧ ¬ ReadOnlyAt 0x008 ∧ ¬ ReadOnlyAt 0x0C0 ∧
    NextTurn (.host (.write 0x2FC 32 1)) []
      (onTurn (.host (.write 0x2FC 32 1)) (looping .pace State.reset)) :=
  ⟨by decide, by decide, by decide, by decide, by decide, by decide, by decide, by decide, ⟨rfl, rfl⟩⟩

theorem wit_AcceptedWriteReadsBack : (0x068, 0x0007FFFF) ∈ gatedRegisters ∧
    State.reset.status.state ≠ .running ∧ State.reset.status.busy = false ∧
    (0x018, 0x0000001F) ∈ liveRegisters ∧
    NextTurn (.host (.write 0x068 32 0xFFFFFFFF)) []
      (onTurn (.host (.write 0x068 32 0xFFFFFFFF)) State.reset) ∧
    NextTurn (.host (.write 0x018 32 1)) []
      (onTurn (.host (.write 0x018 32 1)) (looping .pace State.reset)) :=
  ⟨by decide, by decide, rfl, by decide, ⟨rfl, rfl⟩, ⟨rfl, rfl⟩⟩

theorem wit_BufferWordsAreBytes : State.reset.status.state ≠ .running ∧
    State.reset.status.busy = false ∧ State.reset.txbuf.wf Config.txMax = true ∧
    State.reset.rxbuf.wf Config.rxMax = true ∧
    NextTurn (.host (.write (0x400 + 4 * 15) 32 1)) []
      (onTurn (.host (.write (0x400 + 4 * 15) 32 1)) State.reset) ∧
    NextTurn (.host (.write (0x500 + 4 * 31) 32 1)) []
      (onTurn (.host (.write (0x500 + 4 * 31) 32 1)) State.reset) :=
  ⟨by decide, rfl, rfl, rfl, ⟨rfl, rfl⟩, ⟨rfl, rfl⟩⟩

theorem wit_WriteOneClears :
    NextTurn (.host (.write 0x008 32 0x100)) [] (onTurn (.host (.write 0x008 32 0x100)) State.reset) ∧
    NextTurn (.host (.write 0x01C 32 0x1F)) [] (onTurn (.host (.write 0x01C 32 0x1F)) State.reset) :=
  ⟨⟨rfl, rfl⟩, ⟨rfl, rfl⟩⟩

/-- The reset state with the reset input asserted. -/
def held : State := State.resetIn { Env.reset with resetPin := true }

theorem wit_HardwareReset : (∀ t ∈ [Turn.host (.read 0 32), .host (.write 4 32 1), .engine,
      .transport .fail, .clock 0, .clock 5, .resetPin false, .resetPin true],
    (onTurn t held).env.resetPin = true ∧ (onTurn t held).env.agenda = t :: []) ∧
    held.env.now.toNat ≤ (0 : Ticks).toNat ∧
    (0 : Ticks).toNat < (onTurn (.clock 0) { held with env := { held.env with now := 1 } }).env.now.toNat ∧
    (looping .pace State.reset).env.resetPin = false ∧
    (onTurn (.resetPin true) (looping .pace State.reset)).env.agenda = .resetPin true :: [] ∧
    NextTurn (.resetPin false) [] (onTurn (.resetPin false) (looping .pace State.reset)) :=
  ⟨fun _ _ => ⟨rfl, rfl⟩, by decide, by decide, rfl, rfl, ⟨rfl, rfl⟩⟩

/-- The invariant holds in STOPPED after a fatal error. -/
theorem inv_stopped (ts : List Turn) : Inv { issued 0x53 State.reset with
    status := { Status.reset with state := .stopped, busy := true }
    err := { cmdErr := .none, fatalCode := .unpack, fatalStage := .decode }
    env := { Env.reset with agenda := ts } } := inv_of_check rfl rfl rfl

/-- A running loop at stage EXCHANGE with a sealed frame of five bytes, `t` next. -/
def exchanging (t : Turn) : State :=
  onTurn t (looping .exchange (withTx [5, 0, 0, 0, 0xFB] (rawOf 5)))

/-- The invariant holds in a running loop before an exchange. -/
theorem inv_exchanging (t : Turn) : Inv (exchanging t) :=
  inv_of_check rfl rfl (show cycleCheck (exchanging .engine) = true by decide)

/-- START is taken, and the loop state changes. -/
theorem wit_StepKeepsInv :
    Inv { initialized 0x51 with env := { Env.reset with agenda := [.engine] } } ∧
    got (·.status.state) (step { initialized 0x51 with env := { Env.reset with agenda := [.engine] } }) =
      some .running := ⟨inv_initialized 0x51 [.engine], by decide⟩

theorem wit_InvStatesProceed :
    Inv { initialized 0x54 with env := { Env.reset with agenda := [.engine] } } :=
  inv_initialized 0x54 [.engine]

/-- The state `s` meets the invariant, and its step leads to the loop state `x` with the fatal code `c`. -/
def Leads (s : State) (x : LoopState) (c : ErrCode) : Prop :=
  Inv s ∧ got (fun t => (t.status.state, t.err.fatalCode)) (step s) = some (x, c)

/-- IDLE to INITIALIZED or STOPPED, by INIT. -/
theorem wit_StateTransitions_init :
    let opening (a : Answer) := onTurn (.transport a) { issued 0x50 State.reset with xfer := .opening }
    Leads (opening (.ok [])) .initialized .none ∧ Leads (opening .fail) .stopped .openFail ∧
    Leads (opening .initFail) .stopped .initFail :=
  ⟨⟨inv_of_check rfl rfl rfl, by decide⟩, ⟨inv_of_check rfl rfl rfl, by decide⟩,
    ⟨inv_of_check rfl rfl rfl, by decide⟩⟩

/-- INITIALIZED to RUNNING by START, to STOPPED by STOP, and to IDLE by RESET. -/
theorem wit_StateTransitions_initialized :
    let closing (w : Word) (next : AfterClose) (a : Answer) :=
      onTurn (.transport a) { initialized w with xfer := .closing, afterClose := next }
    Leads (onTurn .engine (initialized 0x51)) .running .none ∧
    Leads (closing 0x52 .stopped (.ok [])) .stopped .none ∧
    Leads (closing 0x52 .stopped .fail) .stopped .closeFail ∧
    Leads (closing 0x53 .idle .fail) .idle .none :=
  ⟨⟨inv_of_check rfl rfl rfl, by decide⟩, ⟨inv_of_check rfl rfl rfl, by decide⟩,
    ⟨inv_of_check rfl rfl rfl, by decide⟩, ⟨inv_of_check rfl rfl rfl, by decide⟩⟩

/-- INITIALIZED to STOPPED by a fatal error of CYCLE1: a failed exchange, and a frame too short. -/
theorem wit_StateTransitions_cycle1 :
    Leads (onTurn (.transport .fail) { oneCycle .exchange (withTx [5, 0, 0, 0, 0xFB] (rawOf 5)) with
      xfer := .exchange [5, 0, 0, 0, 0xFB] }) .stopped .exchangeFail ∧
    Leads (oneCycle .decode (withRx [0x01, 0xFF] State.reset)) .stopped .unpack :=
  ⟨⟨inv_of_check (by decide) rfl (by decide), by decide⟩, ⟨inv_of_check rfl rfl (by decide), by decide⟩⟩

/-- RUNNING to STOPPED: the boundary's CLOSE, a failed exchange, and a frame too short. -/
theorem wit_StateTransitions_running :
    Leads (onTurn (.transport (.ok [])) (let s := looping .boundary State.reset
      { s with xfer := .closing, status := { s.status with stopReq := true } })) .stopped .none ∧
    Leads { exchanging (.transport .fail) with xfer := .exchange [5, 0, 0, 0, 0xFB] }
      .stopped .exchangeFail ∧
    Leads (looping .decode (withRx [0x01, 0xFF] State.reset)) .stopped .unpack :=
  ⟨⟨inv_of_check rfl rfl rfl, by decide⟩, ⟨inv_of_check (by decide) rfl (by decide), by decide⟩,
    ⟨inv_of_check rfl rfl (by decide), by decide⟩⟩

/-- STOPPED to IDLE by RESET, and a hardware reset in RUNNING. -/
theorem wit_StateTransitions_reset :
    Leads { issued 0x53 State.reset with
      status := { Status.reset with state := .stopped, busy := true }
      err := { cmdErr := .none, fatalCode := .unpack, fatalStage := .decode }
      env := { Env.reset with agenda := [.engine] } } .idle .none ∧
    Leads (exchanging (.resetPin true)) .idle .none ∧
    got (fun t => decide (t = State.resetIn t.env)) (step (exchanging (.resetPin true))) = some true :=
  ⟨⟨inv_stopped [.engine], by decide⟩, ⟨inv_exchanging _, by decide⟩, by decide⟩

theorem wit_FeedbackOnlyByDecode :
    got (·.seq) (step (onTurn .engine (issued 0x20 (withRx frame26 State.reset)))) = some 1 := by decide

/-- A fatal record, and a RESET that clears it. -/
theorem wit_FatalRecordStays :
    let s : State := { issued 0x53 State.reset with
      status := { Status.reset with state := .stopped, busy := true }
      err := { cmdErr := .none, fatalCode := .unpack, fatalStage := .decode }
      env := { Env.reset with agenda := [.engine] } }
    Inv s ∧ s.err.fatalCode ≠ .none ∧ got (·.status.state) (step s) = some .idle :=
  ⟨inv_stopped [.engine], by decide, by decide⟩

/-- A cycle in progress, and a host write of `SETPOINT[0]`, which is no gated register. -/
theorem wit_ConfigurationHeldInCycle :
    Inv (exchanging (.host (.write 0x080 32 1))) ∧ cycleActive (exchanging (.host (.write 0x080 32 1))) ∧
    got (·.cfg.setpoint.index) (step (exchanging (.host (.write 0x080 32 1)))) = some 1 :=
  ⟨inv_exchanging _, .inl rfl, by decide⟩

/-- A motion frame's ENCODE, the one stage that changes `TX_LEN`. -/
theorem wit_ConfigurationHeldInCycle_encode :
    Inv (looping .encode State.reset) ∧ cycleActive (looping .encode State.reset) ∧
    State.reset.cfg.ctrl.extractLsb' 0 2 ≠ 3#2 ∧
    got (·.txLen) (step (looping .encode State.reset)) = some 17 :=
  ⟨inv_of_check rfl rfl (by decide), .inl rfl, by decide, by decide⟩

theorem wit_FramesSentValidate : Inv (exchanging .engine) ∧ (exchanging .engine).xfer = .none ∧
    got (·.xfer) (step (exchanging .engine)) = some (.exchange [5, 0, 0, 0, 0xFB]) :=
  ⟨inv_exchanging .engine, rfl, by decide⟩

end Sys2Proof.Tests
end

section
/-! PROOFS. The scope of the machine (`00_scope.md`): rounding, the checksum engine's arithmetic and
commands, what every turn leaves of the surroundings, and that no step from the invariant stops. -/

namespace Sys2Proof.Machine

/-! ### Rounding -/

/-- `rhaz` keeps the sign of `n`; its magnitude times `|d|` is the multiple of `|d|` that
`(2|n| + |d|) / (2|d|)` counts. -/
theorem rhaz_mul (n d : Int) :
    rhaz n d * d =
      n.sign * ((d.natAbs : Int) * ((2 * (n.natAbs : Int) + d.natAbs) / (2 * d.natAbs))) := by
  rw [rhaz, Int.sign_mul, Int.sign_sign]
  generalize (2 * (n.natAbs : Int) + d.natAbs) / (2 * d.natAbs) = q
  rw [← Int.sign_mul_self d]
  ring

/-- The multiple of `m` that `(2a + m) / (2m)` counts lies within `m / 2` of `a`, and at the upper end
when it is as far as that. -/
theorem mul_roundHalfUp_bounds {a m : Int} (hm : 0 < m) :
    2 * a - m < 2 * (m * ((2 * a + m) / (2 * m))) ∧
      2 * (m * ((2 * a + m) / (2 * m))) ≤ 2 * a + m := by
  have hdiv := Int.mul_ediv_add_emod (2 * a + m) (2 * m)
  have hlow := Int.emod_nonneg (2 * a + m) (show 2 * m ≠ 0 by omega)
  have hhigh := Int.emod_lt_of_pos (2 * a + m) (show 0 < 2 * m by omega)
  rw [mul_assoc] at hdiv
  omega

/-- `rhaz n d * d` is `n` with its magnitude moved to a multiple of `|d|`: the nearest one, and of two
equally near the larger. -/
theorem rhaz_nearest {n d : Int} (hd : d ≠ 0) :
    2 * |rhaz n d * d - n| ≤ |d| ∧ (2 * |rhaz n d * d - n| = |d| → |n| < |rhaz n d * d|) := by
  have hm : 0 < (d.natAbs : Int) := by omega
  obtain ⟨hlow, hhigh⟩ := mul_roundHalfUp_bounds (a := n.natAbs) hm
  rw [rhaz_mul]
  generalize (d.natAbs : Int) * ((2 * (n.natAbs : Int) + d.natAbs) / (2 * d.natAbs)) = r at hlow hhigh
  simp only [Int.abs_eq_natAbs]
  rcases lt_trichotomy n 0 with hn | rfl | hn
  · rw [Int.sign_eq_neg_one_of_neg hn]; omega
  · rw [Int.sign_zero]; omega
  · rw [Int.sign_eq_one_of_pos hn]; omega

/-- `trunc` is the library's division with rounding toward zero. -/
theorem trunc_eq_tdiv (n d : Int) : trunc n d = n.tdiv d := by
  rw [trunc, ← Int.sign_mul_natAbs (n.tdiv d), Int.natAbs_tdiv, Int.sign_tdiv, Int.sign_mul]
  split
  · next h => rw [← Int.natCast_ediv, Nat.div_eq_of_lt h, Nat.cast_zero, mul_zero, zero_mul]
  · rfl

/-- Settles O14, from the bounds on `rhaz`'s magnitude and the sign rule of `tdiv`. -/
theorem roundingIsNearest : Obligations.RoundingIsNearest := by
  intro n d hd
  obtain ⟨hnear, htie⟩ := rhaz_nearest (n := n) hd
  exact ⟨hnear, htie, trunc_eq_tdiv n d⟩

/-! ### The checksum engine -/

/-- Reading the low byte as signed does not change a sum mod 256. -/
theorem sext8_modEq (v : Int) : sext8 v ≡ v [ZMOD 256] := by
  rw [sext8, BitVec.toInt_ofInt]
  exact Int.bmod_emod

/-- The running sum is, mod 256, its start value plus the bytes. -/
theorem sum8From_modEq (B : Nat → Byte) (lo n : Nat) (v : Int) :
    sum8From B lo n v ≡ v + ((∑ k ∈ Finset.Ico lo (lo + n), (B k).toNat : Nat) : Int) [ZMOD 256] := by
  induction n generalizing lo v with
  | zero => simp [sum8From]
  | succ n ih =>
    calc sum8From B lo (n + 1) v
      _ ≡ sext8 (v + (B lo).toNat) +
            ((∑ k ∈ Finset.Ico (lo + 1) (lo + 1 + n), (B k).toNat : Nat) : Int) [ZMOD 256] := ih _ _
      _ ≡ v + (B lo).toNat +
            ((∑ k ∈ Finset.Ico (lo + 1) (lo + 1 + n), (B k).toNat : Nat) : Int) [ZMOD 256] :=
          (sext8_modEq _).add_right _
      _ = v + ((∑ k ∈ Finset.Ico lo (lo + (n + 1)), (B k).toNat : Nat) : Int) := by
          rw [Finset.sum_eq_sum_Ico_succ_bot (a := lo) (by omega), Nat.cast_add, add_assoc,
            show lo + 1 + n = lo + (n + 1) by omega]

/-- `sum8` is the plain sum of the bytes mod 256 (R83). -/
theorem sum8_modEq (B : Nat → Byte) (lo hi : Nat) :
    sum8 B lo hi ≡ ((∑ k ∈ Finset.Ico lo hi, (B k).toNat : Nat) : Int) [ZMOD 256] := by
  have hsum := sum8From_modEq B lo (hi - lo) 0
  rcases Nat.le_total lo hi with h | h
  · rwa [Nat.add_sub_cancel' h, zero_add] at hsum
  · rw [sum8, Nat.sub_eq_zero_of_le h, Finset.Ico_eq_empty (by omega)]
    rfl

/-- The two's-complement negation of a sum, as a number. -/
theorem wrap8_negate_toNat {x : Int} {n : Nat} (h : x ≡ (n : Int) [ZMOD 256]) :
    (wrap8 (0x100 - x)).toNat = (256 - n % 256) % 256 := by
  rw [wrap8, BitVec.toNat_ofInt]
  rw [Int.ModEq] at h
  omega

/-- Variant P is the negated sum of the bytes 1 to `L-3` (R84, R87). -/
theorem cksP_toNat (B : Nat → Byte) (L : Nat) :
    (cksP B L).toNat = (256 - (∑ k ∈ Finset.Ico 1 (L - 2), (B k).toNat) % 256) % 256 :=
  wrap8_negate_toNat (sum8_modEq B 1 (L - 2))

/-- Variant F is the negated sum of the bytes 0 to `L-2` (R85, R87). -/
theorem cksF_toNat (B : Nat → Byte) (L : Nat) :
    (cksF B L).toNat = (256 - (∑ k ∈ Finset.Ico 0 (L - 1), (B k).toNat) % 256) % 256 :=
  wrap8_negate_toNat (sum8_modEq B 0 (L - 1))

theorem byteSum_eq_sum (B : Nat → Byte) (n : Nat) :
    byteSum B n = ∑ k ∈ Finset.range n, (B k).toNat := by
  induction n with
  | zero => rfl
  | succ n ih => rw [Finset.sum_range_succ, ← ih]; rfl

theorem byteOr_eq_zero_iff (B : Nat → Byte) (n : Nat) : byteOr B n = 0 ↔ ∀ k < n, B k = 0 := by
  induction n with
  | zero => simp [byteOr]
  | succ n ih =>
    rw [Nat.forall_lt_succ_right, ← ih]
    exact BitVec.or_eq_zero_iff

/-- The validator decides `Validates` (R86). -/
theorem frameValid_iff (B : Nat → Byte) (L : Nat) : frameValid B L = true ↔ Validates B L := by
  have hor : byteOr B L ≠ 0 ↔ ∃ k, k < L ∧ B k ≠ 0 := by
    rw [Ne, byteOr_eq_zero_iff]
    push Not
    rfl
  rw [Validates, ← hor, ← byteSum_eq_sum, frameValid, Bool.and_eq_true, beq_iff_eq, bne_iff_ne]

/-- Only the first `L` bytes decide whether they are valid. -/
theorem validates_congr {B C : Nat → Byte} {L : Nat} (h : ∀ k < L, B k = C k) :
    Validates B L ↔ Validates C L := by
  have hsum : (∑ k ∈ Finset.range L, (B k).toNat) = ∑ k ∈ Finset.range L, (C k).toNat :=
    Finset.sum_congr rfl fun k hk => by rw [h k (Finset.mem_range.mp hk)]
  have hex : (∃ k, k < L ∧ B k ≠ 0) ↔ ∃ k, k < L ∧ C k ≠ 0 :=
    exists_congr fun k => and_congr_right fun hk => by rw [h k hk]
  rw [Validates, Validates, hsum, hex]

/-! ### The commands CKSUMP, CKSUMF and VALID -/

/-- `len` bytes of the buffer that `b` names lie within it, and a format B command reads them as they
stand there (R71, R89). -/
theorem bufByte_of_named {b : Buf} {len : Nat} {s : State} {B : Nat → Byte}
    (h : b = .tx ∧ len ≤ 64 ∧ B = memRead s.txbuf ∨ b = .rx ∧ len ≤ 128 ∧ B = memRead s.rxbuf) :
    len ≤ bufSize b ∧ ∀ k < len, bufByte s b k = B k := by
  rcases h with ⟨rfl, hlen, rfl⟩ | ⟨rfl, hlen, rfl⟩
  · exact ⟨hlen, fun k hk => txByte_of_lt (Nat.lt_of_lt_of_le hk hlen)⟩
  · exact ⟨hlen, fun k hk => rxByte_of_lt (Nat.lt_of_lt_of_le hk hlen)⟩

theorem allowsData_of_not_running {s : State} (h : s.status.state ≠ .running) : allowsData s = true :=
  bne_iff_ne.mpr h

/-- Outside RUNNING and within the buffer a format B command passes its checks (R89, R90, R91). -/
theorem formatB_checks_pass {b : Buf} {len : Nat} {s : State} {k : Outcome}
    (hs : s.status.state ≠ .running) (hlen : len ≤ bufSize b) :
    require (allowsData s) .state s (require (len ≤ bufSize b) .badOperand s k) = k := by
  rw [allowsData_of_not_running hs, decide_eq_true hlen, require_true, require_true]

theorem exec_cksump {b : Buf} {len : Nat} {s : State} (hs : s.status.state ≠ .running)
    (hlen : len ≤ bufSize b) :
    exec (.cksump b len) s =
      .next (complete .none { s with result := (cksP (bufByte s b) len).setWidth 32 }) :=
  formatB_checks_pass hs hlen

theorem exec_cksumf {b : Buf} {len : Nat} {s : State} (hs : s.status.state ≠ .running)
    (hlen : len ≤ bufSize b) :
    exec (.cksumf b len) s =
      .next (complete .none { s with result := (cksF (bufByte s b) len).setWidth 32 }) :=
  formatB_checks_pass hs hlen

theorem exec_valid {b : Buf} {len : Nat} {s : State} (hs : s.status.state ≠ .running)
    (hlen : len ≤ bufSize b) :
    exec (.valid b len) s =
      .next (complete .none { setValid (frameValid (bufByte s b) len) s with
        result := if frameValid (bufByte s b) len then 1 else 0 }) :=
  formatB_checks_pass hs hlen

/-- A check byte that negates the sum of the bytes `B` in a range, as the word left in RESULT; any bytes
that agree with `B` there give it. -/
theorem negatedSum_word {c : Byte} {B C : Nat → Byte} {lo hi : Nat}
    (hc : c.toNat = (256 - (∑ k ∈ Finset.Ico lo hi, (B k).toNat) % 256) % 256)
    (h : ∀ k < hi, B k = C k) :
    c.setWidth 32 =
      BitVec.ofNat 32 ((256 - (∑ k ∈ Finset.Ico lo hi, (C k).toNat) % 256) % 256) := by
  have hsum : (∑ k ∈ Finset.Ico lo hi, (B k).toNat) = ∑ k ∈ Finset.Ico lo hi, (C k).toNat :=
    Finset.sum_congr rfl fun k hk => by rw [h k (Finset.mem_Ico.mp hk).2]
  rw [← BitVec.ofNat_toNat, hc, hsum]

/-- Settles O11: past the checks each command writes its variant, which is the negated byte sum. -/
theorem checksumCommandsNegateSum : Obligations.ChecksumCommandsNegateSum := by
  intro b len s B hs hB
  obtain ⟨hlen, hbytes⟩ := bufByte_of_named hB
  rw [exec_cksump hs hlen, exec_cksumf hs hlen,
    negatedSum_word (cksP_toNat _ len) fun k hk => hbytes k (by omega),
    negatedSum_word (cksF_toNat _ len) fun k hk => hbytes k (by omega)]
  exact ⟨rfl, rfl⟩

/-- Settles O12: past the checks the validator's answer is written, and it decides `Validates`. -/
theorem validReportsFrame : Obligations.ValidReportsFrame := by
  intro b len s B hs hB
  obtain ⟨hlen, hbytes⟩ := bufByte_of_named hB
  refine ⟨frameValid (bufByte s b) len, ?_, exec_valid hs hlen⟩
  rw [frameValid_iff, validates_congr hbytes]

/-! ### The next states an outcome can answer -/

/-- Every next state that the outcome answers satisfies `P`. -/
def AllNext (P : State → Prop) (k : Outcome) : Prop := ∀ t, k = .next t → P t

theorem AllNext.next {P : State → Prop} {u : State} (h : P u) : AllNext P (.next u) := by
  rintro t ⟨⟩
  exact h

theorem AllNext.fault {P : State → Prop} (r : Fault) : AllNext P (.fault r) := by
  intro t h
  cases h

theorem AllNext.ite {P : State → Prop} {c : Prop} [Decidable c] {j k : Outcome} (hj : c → AllNext P j)
    (hk : ¬ c → AllNext P k) : AllNext P (if c then j else k) := by
  split
  · next h => exact hj h
  · next h => exact hk h

/-- A check answers the command error, or what follows it answers. -/
theorem AllNext.require {P : State → Prop} {ok : Bool} {c : ErrCode} {s : State} {k : Outcome}
    (he : P (complete c s)) (hk : AllNext P k) : AllNext P (require ok c s k) := by
  intro t h
  rcases require_next h with ⟨-, h⟩ | ⟨-, rfl⟩
  · exact hk t h
  · exact he

/-! ### What a turn leaves of the surroundings -/

/-- The outcome's next states have the surroundings of `s`. -/
abbrev KeepsEnv (s : State) (k : Outcome) : Prop := AllNext (·.env = s.env) k

/-- A check keeps the surroundings when what follows it does. -/
theorem KeepsEnv.require {ok : Bool} {c : ErrCode} {s : State} {k : Outcome} (h : KeepsEnv s k) :
    KeepsEnv s (require ok c s k) :=
  AllNext.require (complete_env c s) h

theorem gen_env (s : State) : (gen s).env = s.env := by
  unfold gen
  cases ctrlGen s <;> simp

theorem ctlaw_env (s : State) : (ctlaw s).env = s.env := rangeEvent_env _ _

theorem buildMotion_env (mode : Byte) (conv : Int → Int) (range : Int → Bool) (s : State) :
    (buildMotion mode conv range s).env = s.env := rangeEvent_env _ _

/-- No command touches the surroundings. -/
theorem exec_keepsEnv (i : Instr) (s : State) : KeepsEnv s (exec i s) := by
  cases i with
  | nop => exact .next rfl
  | cvtr2d | cvtc2p | init => exact .require (.next rfl)
  | cksump | cksumf | valid | cvtv2e | encraw | start | cycle1 => exact .require (.require (.next rfl))
  | decode => exact .require (.require (.require (.next rfl)))
  | encpos | encvolt => exact .require (.next (buildMotion_env _ _ _ s))
  | cvtd2r => exact .require (.next (rangeEvent_env _ _))
  | gen => exact .require (.require (.next (gen_env s)))
  | ctlaw => exact .require (.next (ctlaw_env s))
  | stop | reset => exact .require (.ite (fun _ => .next rfl) fun _ => .next rfl)

theorem commandStep_keepsEnv (w : Word) (s : State) : KeepsEnv s (commandStep w s) := by
  cases h : decodeWord w with
  | ok i => rw [commandStep_ok h]; exact exec_keepsEnv i s
  | error e => rw [commandStep_error h]; exact .next rfl

theorem afterDecode_env (s : State) : (afterDecode s).env = s.env := by
  unfold afterDecode
  split
  · rfl
  · exact lateCheck_env _

theorem stageBoundary_env (s : State) : (stageBoundary s).env = s.env := by
  unfold stageBoundary
  split <;> rfl

theorem stageGenerate_keepsEnv (s : State) : KeepsEnv s (stageGenerate s) :=
  .ite (fun _ => .next rfl) fun _ => .ite (fun _ => .next (gen_env s)) fun _ => .fault _

theorem stageControl_env (s : State) : (stageControl s).env = s.env := by
  rw [stageControl, setStage_env]
  split
  · rfl
  · rfl
  · split
    · exact ctlaw_env s
    · rfl
  · rfl

theorem stageEncode_keepsEnv (s : State) : KeepsEnv s (stageEncode s) := by
  unfold stageEncode
  split
  · exact .next (buildMotion_env _ _ _ s)
  · exact .next (buildMotion_env _ _ _ s)
  · exact .next (buildMotion_env _ _ _ s)
  · exact .ite (fun _ => .next rfl) fun _ => .fault _

theorem stageExchange_keepsEnv (s : State) : KeepsEnv s (stageExchange s) :=
  .ite (fun _ => .next rfl) fun _ => .fault _

theorem stageDecode_env (s : State) : (stageDecode s).env = s.env := by
  unfold stageDecode
  dsimp only
  split
  · exact afterDecode_env _
  · split
    · exact fatal_env _ _ _
    · exact afterDecode_env _

theorem stagePace_env (s : State) : (stagePace s).env = s.env := by
  unfold stagePace
  split <;> rfl

/-- No stage of the loop touches the surroundings. -/
theorem stageStep_keepsEnv (s : State) : KeepsEnv s (stageStep s) := by
  unfold stageStep
  cases s.status.stage with
  | boundary => exact .next (stageBoundary_env s)
  | sample => exact .next rfl
  | generate => exact stageGenerate_keepsEnv s
  | control => exact .next (stageControl_env s)
  | encode => exact stageEncode_keepsEnv s
  | exchange => exact stageExchange_keepsEnv s
  | decode => exact .next (stageDecode_env s)
  | pace => exact .next (stagePace_env s)

theorem loopTurn_keepsEnv (s : State) : KeepsEnv s (loopTurn s) :=
  .ite (fun _ => stageStep_keepsEnv s) fun _ => .next rfl

/-- The Engine's turn leaves the surroundings alone. -/
theorem engineTurn_keepsEnv (s : State) : KeepsEnv s (engineTurn s) := by
  rcases engineTurn_cases s with ⟨-, he⟩ | ⟨w, -, -, -, he⟩ | ⟨-, -, he⟩ <;> rw [he]
  · exact .next rfl
  · exact commandStep_keepsEnv w s
  · exact loopTurn_keepsEnv s

/-- The Transport's turn leaves the surroundings alone. -/
theorem transportTurn_env (a : Answer) (s : State) : (transportTurn a s).env = s.env := by
  have hclose : (closeDone s).env = s.env := by unfold closeDone; dsimp only; split <;> rfl
  rcases transportTurn_cases a s with ⟨-, h⟩ | ⟨-, h | h | h⟩ | ⟨-, ⟨rx, -, h⟩ | h⟩ |
    ⟨-, ⟨-, h⟩ | ⟨-, h | h⟩⟩ <;> rw [h]
  · rfl
  · exact fatal_env _ _ _
  · exact fatal_env _ _ _
  · rfl
  · exact fatal_env _ _ _
  · rfl
  · exact hclose
  · exact fatal_env _ _ _

theorem storeReg_env (r : Reg) (v : Word) (s : State) : (storeReg r v s).env = s.env := by
  cases r
  case cmd => show (issue v s).env = _; unfold issue; split <;> rfl
  all_goals rfl

theorem writeReg_env (r : Reg) (v : Word) (s : State) : (writeReg r v s).env = s.env := by
  unfold writeReg
  cases regAccess r with
  | readOnly => rfl
  | live => exact storeReg_env r v s
  | gated =>
    dsimp only
    split
    · exact storeReg_env r v s
    · rfl

/-- A host access leaves the Clock alone; a read changes of the surroundings only what it returned. -/
theorem hostTurn_now (a : HostAccess) (s : State) : (hostTurn a s).env.now = s.env.now := by
  unfold hostTurn
  cases a with
  | read addr width => dsimp only; split <;> rfl
  | write addr width v =>
    dsimp only
    split
    · rw [writeReg_env]
    · rfl

theorem resetPinTurn_now (a : Bool) (s : State) : (resetPinTurn a s).env.now = s.env.now := by
  unfold resetPinTurn
  split <;> rfl

theorem clockTurn_now_le (x : Ticks) (s : State) : s.env.now.toNat ≤ (clockTurn x s).env.now.toNat := by
  rw [clockTurn_env]
  dsimp only
  split <;> omega

theorem turnInReset_now_le (t : Turn) (s : State) :
    s.env.now.toNat ≤ (turnInReset t s).env.now.toNat := by
  cases t with
  | engine | transport => exact Nat.le_refl _
  | host a => cases a <;> exact Nat.le_refl _
  | clock x => exact clockTurn_now_le x s
  | resetPin a => exact Nat.le_of_eq (congrArg _ (resetPinTurn_now a s).symm)

/-- No agent's turn lets the Clock decrease (R8). -/
theorem takeTurn_now_le {u : Turn} {s t : State} (h : takeTurn u s = .next t) :
    s.env.now.toNat ≤ t.env.now.toNat := by
  cases hp : s.env.resetPin with
  | true =>
    rw [takeTurn_asserted hp] at h
    cases h
    exact turnInReset_now_le u s
  | false =>
    rw [takeTurn_released hp] at h
    cases u with
    | engine => rw [engineTurn_keepsEnv s t h]
    | host a => cases h; rw [hostTurn_now]
    | transport a => cases h; rw [transportTurn_env]
    | clock x => cases h; exact clockTurn_now_le x s
    | resetPin a => cases h; rw [resetPinTurn_now]

/-- No step lets the Clock decrease (R8). -/
theorem step_now_le {s t : State} (h : step s = .next t) : s.env.now.toNat ≤ t.env.now.toNat := by
  obtain ⟨u, e, hstep, -, -, hnow⟩ := step_is_turn s
  exact Nat.le_trans hnow (takeTurn_now_le (hstep ▸ h))

/-! ### The step of a scheduled turn -/

theorem step_engine {rest : List Turn} {s : State} (h : NextTurn .engine rest s) :
    step s = engineTurn (scheduled rest s) :=
  (step_scheduled h.1).trans (takeTurn_released (s := scheduled rest s) h.2)

theorem step_transport {a : Answer} {rest : List Turn} {s : State} (h : NextTurn (.transport a) rest s) :
    step s = .next (transportTurn a (scheduled rest s)) :=
  (step_scheduled h.1).trans (takeTurn_released (s := scheduled rest s) h.2)

theorem step_clock {x : Ticks} {rest : List Turn} {s : State} (h : NextTurn (.clock x) rest s) :
    step s = .next (clockTurn x (scheduled rest s)) :=
  (step_scheduled h.1).trans (takeTurn_released (s := scheduled rest s) h.2)

/-- While the reset input is asserted the step that takes a scheduled turn is the turn in reset. -/
theorem step_asserted {t : Turn} {rest : List Turn} {s : State} (hp : s.env.resetPin = true)
    (h : s.env.agenda = t :: rest) : step s = .next (turnInReset t (scheduled rest s)) :=
  (step_scheduled h).trans (takeTurn_asserted (s := scheduled rest s) hp)

/-- The reset input acts whether or not it is asserted (R160). -/
theorem step_resetPin {a : Bool} {rest : List Turn} {s : State} (h : s.env.agenda = .resetPin a :: rest) :
    step s = .next (resetPinTurn a (scheduled rest s)) := by
  cases hp : s.env.resetPin with
  | true => exact step_asserted hp h
  | false => exact (step_scheduled h).trans (takeTurn_released (s := scheduled rest s) hp)

/-! ### Turns that do nothing -/

theorem clockTurn_of_le {x : Ticks} {s : State} (h : s.env.now.toNat ≤ x.toNat) :
    clockTurn x s = { s with env := { s.env with now := x } } := by
  rw [clockTurn, if_pos h]

/-- A smaller value offered to the Clock is ignored (entry 3). -/
theorem clockTurn_of_lt {x : Ticks} {s : State} (h : x.toNat < s.env.now.toNat) :
    clockTurn x s = s := by
  rw [clockTurn, if_neg (by omega)]

theorem transportTurn_none {a : Answer} {s : State} (h : s.xfer = .none) : transportTurn a s = s := by
  rw [transportTurn, h]

theorem loopActive_iff (s : State) : loopActive s = true ↔ cycleActive s := by
  rw [loopActive, Bool.or_eq_true, beq_iff_eq]

/-- The Engine has no step while a request waits, nor with no command pending outside a cycle (R126). -/
theorem engineTurn_idle {s : State}
    (h : s.xfer ≠ .none ∨ s.pending = none ∧ s.oneShot = false ∧ s.status.state ≠ .running) :
    engineTurn s = .next s := by
  rcases engineTurn_cases s with ⟨-, he⟩ | ⟨w, hx, hp, -, -⟩ | ⟨hx, -, he⟩
  · exact he
  · rcases h with h | ⟨h, -, -⟩
    · exact absurd hx h
    · rw [h] at hp; cases hp
  · rcases h with h | ⟨-, ho, hs⟩
    · exact absurd hx h
    · have hidle : loopActive s ≠ true := by rw [Ne, loopActive_iff]; simp [cycleActive, ho, hs]
      rw [he, loopTurn, if_neg hidle]

/-- Settles O32: each agent's turn without a step, the Clock's turn, and the Clock over every step. -/
theorem agentsWithoutStep : Obligations.AgentsWithoutStep := by
  refine ⟨fun s rest => ⟨fun hn hidle => ?engine, fun a hn hx => ?transport,
    fun x hn => ⟨fun hle => ?clock, fun hlt => ?clockBack⟩⟩, fun s t => step_now_le⟩
  case engine => rw [step_engine hn, engineTurn_idle (s := scheduled rest s) hidle]
  case transport => rw [step_transport hn, transportTurn_none (s := scheduled rest s) hx]
  case clock => rw [step_clock hn, clockTurn_of_le (s := scheduled rest s) hle]
  case clockBack => rw [step_clock hn, clockTurn_of_lt (s := scheduled rest s) hlt]

/-! ### No step stops -/

/-- In RAW mode an accepted configuration has a length that can be sealed (R139). -/
theorem rawLengthOk_of_configOk {s : State} (h : configOk s = true) (hm : ctrlMode s = .raw) :
    rawLengthOk s.txLen.toNat = true := by
  rw [configOk, hm, Bool.and_eq_true, Bool.and_eq_true] at h
  exact h.1.1

/-- In the other modes an accepted configuration has a generator that may run (R139). -/
theorem generatorReady_of_configOk {s : State} (h : configOk s = true) (hm : ctrlMode s ≠ .raw) :
    generatorReady s = true := by
  rw [configOk, Bool.and_eq_true, Bool.and_eq_true] at h
  obtain ⟨⟨hgen, -⟩, -⟩ := h
  split at hgen
  · contradiction
  all_goals exact hgen

theorem stageGenerate_proceeds {s : State} (h : configOk s = true) : ∃ t, stageGenerate s = .next t := by
  unfold stageGenerate
  split
  · exact ⟨_, rfl⟩
  · next hm => rw [if_pos (generatorReady_of_configOk h hm)]; exact ⟨_, rfl⟩

theorem stageEncode_proceeds {s : State} (h : configOk s = true) : ∃ t, stageEncode s = .next t := by
  unfold stageEncode
  split
  · exact ⟨_, rfl⟩
  · exact ⟨_, rfl⟩
  · exact ⟨_, rfl⟩
  · next hm => rw [if_pos (rawLengthOk_of_configOk h hm)]; exact ⟨_, rfl⟩

/-- Under an accepted configuration, with a frame that fits where it is sent, every stage goes on. -/
theorem stageStep_proceeds {s : State} (hc : configOk s = true)
    (hf : s.status.stage = .exchange → s.txLen.toNat ≤ Config.txMax) : ∃ t, stageStep s = .next t := by
  unfold stageStep
  cases hg : s.status.stage with
  | boundary | sample | control | decode | pace => exact ⟨_, rfl⟩
  | generate => exact stageGenerate_proceeds hc
  | encode => exact stageEncode_proceeds hc
  | exchange =>
    dsimp only
    rw [stageExchange, if_pos (hf hg)]
    exact ⟨_, rfl⟩

/-- What keeps the loop from a fault: in a cycle the configuration is accepted, and the frame at stage
EXCHANGE fits. -/
theorem loopTurn_proceeds {s : State} (hc : cycleActive s → configOk s = true)
    (hf : cycleActive s → s.status.stage = .exchange → s.txLen.toNat ≤ Config.txMax) :
    ∃ t, loopTurn s = .next t := by
  unfold loopTurn
  split
  · next ha =>
    have hcycle := (loopActive_iff s).mp ha
    exact stageStep_proceeds (hc hcycle) (hf hcycle)
  · exact ⟨_, rfl⟩

theorem takeTurn_proceeds {s : State} (u : Turn) (hloop : ∃ t, loopTurn s = .next t) :
    ∃ t, takeTurn u s = .next t := by
  cases hp : s.env.resetPin with
  | true => exact ⟨_, takeTurn_asserted hp⟩
  | false =>
    rw [takeTurn_released hp]
    cases u with
    | engine =>
      rcases engineTurn_cases s with ⟨-, he⟩ | ⟨w, -, -, -, he⟩ | ⟨-, -, he⟩
      · exact ⟨s, he⟩
      · obtain ⟨t, ht⟩ := commandStep_proceeds w s
        exact ⟨t, he.trans ht⟩
      · obtain ⟨t, ht⟩ := hloop
        exact ⟨t, he.trans ht⟩
    | host | transport | clock | resetPin => exact ⟨_, rfl⟩

/-- Settles O55: only a loop stage can fault, and the invariant's clauses on the configuration and the
frame, which do not speak of the surroundings, exclude each fault. -/
theorem invStatesProceed : Obligations.InvStatesProceed := by
  intro s hinv
  obtain ⟨u, e, hstep, -⟩ := step_is_turn s
  rw [Proceeds, hstep]
  exact takeTurn_proceeds u (loopTurn_proceeds (s := { s with env := e }) hinv.config
    fun hcycle hstage => (hinv.frame hcycle hstage).1)

/-! ### Hardware reset -/

/-- Asserting the input, or releasing it when it is asserted, resets the block (R160, entry 14). -/
theorem resetPinTurn_resets {a : Bool} {s : State} (h : a = true ∨ s.env.resetPin = true) :
    resetPinTurn a s = { State.reset with env := { s.env with resetPin := a } } := by
  rw [resetPinTurn, if_pos (Bool.or_eq_true_iff.mpr h)]
  rfl

/-- A release of an input not asserted changes nothing (entry 14). -/
theorem resetPinTurn_released {s : State} (h : s.env.resetPin = false) :
    resetPinTurn false s = s := by
  rw [resetPinTurn, h]
  rfl

/-- Settles O52: in reset the host, the Engine and the Transport have the turns of `turnInReset`; the Clock
and the reset input act by their own lemmas. -/
theorem hardwareReset : Obligations.HardwareReset := by
  intro s rest
  refine ⟨fun hp => ⟨fun _ _ => step_asserted hp, fun _ _ _ => step_asserted hp, step_asserted hp,
    fun _ => step_asserted hp, fun x h => ⟨fun hle => ?clock, fun hlt => ?clockBack⟩,
    fun h => ?release⟩, fun h => ?assert, fun hn => ?releaseAgain⟩
  case clock => rw [step_asserted hp h, turnInReset, clockTurn_of_le (s := scheduled rest s) hle]
  case clockBack => rw [step_asserted hp h, turnInReset, clockTurn_of_lt (s := scheduled rest s) hlt]
  case release => rw [step_resetPin h, resetPinTurn_resets (s := scheduled rest s) (.inr hp)]
  case assert => rw [step_resetPin h, resetPinTurn_resets (s := scheduled rest s) (.inl rfl)]
  case releaseAgain => rw [step_resetPin hn.1, resetPinTurn_released (s := scheduled rest s) hn.2]

end Sys2Proof.Machine
end

section
/-! PROOFS. What a command can do: the words of the commands without operands, the work that leaves the
sequencer alone, and the next states of each command. -/

namespace Sys2Proof.Machine

/-! ### The words of the commands that have no operands -/

theorem word_of_fields {w : Word} {n : Nat} (hop : opcField w = n) (hzero : w.extractLsb' 8 24 = 0#24) :
    w = BitVec.ofNat 32 n := by
  have hlow := congrArg BitVec.toNat hzero
  rw [opcField] at hop
  simp only [BitVec.extractLsb'_toNat, Nat.shiftRight_eq_div_pow, BitVec.toNat_ofNat] at hop hlow
  apply BitVec.eq_of_toNat_eq
  rw [BitVec.toNat_ofNat]
  omega

theorem formatN_ok {w : Word} {i j : Instr} (h : formatN w j = .ok i) :
    i = j ∧ w.extractLsb' 8 24 = 0#24 := by
  unfold formatN at h
  split at h
  · next hz => cases h; exact ⟨rfl, hz⟩
  · cases h

theorem formatB_ok {w : Word} {i : Instr} {j : Buf → Nat → Instr} (h : formatB w j = .ok i) :
    ∃ b len, i = j b len := by
  unfold formatB at h
  split at h
  · cases h; exact ⟨_, _, rfl⟩
  · cases h

theorem formatC_ok {w : Word} {i : Instr} {j : Nat → Instr} (h : formatC w j = .ok i) :
    ∃ ch, i = j ch := by
  unfold formatC at h
  split at h
  · cases h; exact ⟨_, rfl⟩
  · cases h

/-- A command without operands has one word: the mask of its row covers every bit (R70, R72). -/
theorem word_of_decodeWord {w : Word} {i : Instr} (h : decodeWord w = .ok i)
    (hmask : (matchMask i).2 = 0xFFFFFFFF) : w = encode i := by
  unfold decodeWord at h
  split at h
  case h_2 | h_3 | h_4 =>
    obtain ⟨_, _, rfl⟩ := formatB_ok h
    exact absurd hmask (by decide : (0xFF00FEFF : Word) ≠ 0xFFFFFFFF)
  case h_11 =>
    obtain ⟨_, rfl⟩ := formatC_ok h
    exact absurd hmask (by decide : (0xFFFFF8FF : Word) ≠ 0xFFFFFFFF)
  case h_20 => cases h
  all_goals
    next hop =>
      obtain ⟨rfl, hzero⟩ := formatN_ok h
      exact word_of_fields hop hzero

/-! ### What the work of a command or of a stage leaves alone -/

/-- `t` agrees with `s` in the sequencer's fields: the loop state, the pending command, the request and
the Clock readings; the Clock itself has not moved back. -/
structure SameControl (s t : State) : Prop where
  state : t.status.state = s.status.state := by simp
  busy : t.status.busy = s.status.busy := by simp
  link : t.status.link = s.status.link := by simp
  stopReq : t.status.stopReq = s.status.stopReq := by simp
  stage : t.status.stage = s.status.stage := by simp
  fatalCode : t.err.fatalCode = s.err.fatalCode := by simp
  pending : t.pending = s.pending := by simp
  t0 : t.t0 = s.t0 := by simp
  ta : t.ta = s.ta := by simp
  xfer : t.xfer = s.xfer := by simp
  oneShot : t.oneShot = s.oneShot := by simp
  afterClose : t.afterClose = s.afterClose := by simp
  now : s.env.now.toNat ≤ t.env.now.toNat := by simp

/-- `t` agrees with `s` in what a cycle's checks read: the configuration of R139 and the two frames. -/
structure SameCycle (s t : State) : Prop where
  ctrl : t.cfg.ctrl = s.cfg.ctrl := by simp
  ptrSens : t.cfg.ptrSens = s.cfg.ptrSens := by simp
  layout : t.cfg.layout = s.cfg.layout := by simp
  layout2 : t.cfg.layout2 = s.cfg.layout2 := by simp
  txLen : t.txLen = s.txLen := by simp
  rxLen : t.rxLen = s.rxLen := by simp
  txbuf : t.txbuf = s.txbuf := by simp
  rxbuf : t.rxbuf = s.rxbuf := by simp

/-- What the work of a data command, or of a stage between two requests, can do: it leaves the sequencer,
the host's registers, the records, the received frame and the surroundings alone, keeps `TXBUF` canonical,
and writes the feedback only by a decode. -/
structure DataWork (s t : State) : Prop extends SameControl s t where
  cfg : t.cfg = s.cfg := by simp
  err : t.err = s.err := by simp
  rxLen : t.rxLen = s.rxLen := by simp
  rxbuf : t.rxbuf = s.rxbuf := by simp
  env : t.env = s.env := by simp
  txWf : s.txbuf.wf Config.txMax = true → t.txbuf.wf Config.txMax = true := by simp
  feedback : t.fb = s.fb ∧ t.seq = s.seq ∨ t.fb = decodedFeedback s ∧ t.seq = s.seq + 1 := by simp

theorem gen_work (s : State) : DataWork s (gen s) := by
  unfold gen
  cases ctrlGen s <;> exact {}

theorem gen_sameCycle (s : State) : SameCycle s (gen s) := by
  unfold gen
  cases ctrlGen s <;> exact {}

theorem ctlaw_work (s : State) : DataWork s (ctlaw s) := by
  unfold ctlaw
  exact {}

theorem ctlaw_sameCycle (s : State) : SameCycle s (ctlaw s) := by
  unfold ctlaw
  exact {}

theorem decodeFrame_work (v : Bool) (s : State) : DataWork s (setValid v (decodeFrame s)) where
  feedback := .inr ⟨rfl, rfl⟩

/-! ### Frames -/

theorem sealFrame_wf {m : Memory} {L : Nat} (h : m.wf Config.txMax = true) (hpos : 0 < L)
    (hL : L ≤ Config.txMax) : (sealFrame m L).wf Config.txMax = true :=
  memWrite_wf (memWrite_wf h (by omega)) (by omega)

theorem motionBody_wf {mode : Byte} {conv : Int → Int} {s : State} (h : s.txbuf.wf Config.txMax = true) :
    (motionBody mode conv s).wf Config.txMax = true :=
  memWriteBytes_wf h (by simp [motionPayload, wire16, Config.txMax])

theorem buildMotion_work (mode : Byte) (conv : Int → Int) (range : Int → Bool) (s : State) :
    DataWork s (buildMotion mode conv range s) := by
  unfold buildMotion
  exact { txWf := fun h => by simpa using sealFrame_wf (motionBody_wf h) (by omega) (by decide) }

/-- The lengths that can be sealed (R108). -/
theorem rawLengthOk_iff {L : Nat} : rawLengthOk L = true ↔ 5 ≤ L ∧ L ≤ 64 := by
  rw [rawLengthOk, Bool.and_eq_true, decide_eq_true_eq, decide_eq_true_eq, Config.txMax]

theorem sealRaw_work {s : State} (hL : rawLengthOk s.txLen.toNat = true) : DataWork s (sealRaw s) where
  txWf h := by
    obtain ⟨hlow, hhigh⟩ := rawLengthOk_iff.mp hL
    exact sealFrame_wf (memWrite_wf h (by decide)) (by omega) hhigh

theorem DataWork.withCheckResult {s u : State} (h : DataWork s u) : DataWork s (withCheckResult u) :=
  { h with }

/-! ### What a command can do -/

/-- The state in which START completes (R140). -/
def started (s : State) : State :=
  { clearReceive s with
    t0 := s.env.now
    cycleCnt := 0
    status := { (clearReceive s).status with stopReq := false, stage := .boundary, state := .running } }

/-- The next states of a command executed in `s`. -/
inductive Executed (s : State) : Instr → State → Prop
  /-- it completes without another effect -/
  | ends (i : Instr) (c : ErrCode) : Executed s i (complete c s)
  /-- a data command does its work and completes -/
  | data (i : Instr) (u : State) (hs : s.status.state ≠ .running) (h : DataWork s u) :
      Executed s i (complete .none u)
  | init (hs : s.status.state = .idle) : Executed s .init (request .opening s)
  | start (hs : s.status.state = .initialized) (hc : configOk s = true) :
      Executed s .start (complete .none (started s))
  | stopLoop (hs : s.status.state = .running) :
      Executed s .stop (complete .none { s with status := { s.status with stopReq := true } })
  | stopLink (hs : s.status.state = .initialized) : Executed s .stop (requestClose .stopped s)
  | resetLink (hs : s.status.state = .initialized) : Executed s .reset (requestClose .idle s)
  | reset (hs : s.status.state = .idle ∨ s.status.state = .stopped) :
      Executed s .reset (complete .none (resetClear s))
  | cycle1 (hs : s.status.state = .initialized) (hc : configOk s = true)
      (hr : receiveLengthOk s = true) :
      Executed s .cycle1 (setStage .sample { s with oneShot := true })

/-- Every next state that the outcome answers is one of the command `i` executed in `s`. -/
abbrev Executes (i : Instr) (s : State) (k : Outcome) : Prop := AllNext (Executed s i) k

/-- A check that fails ends the command; the rest runs when it holds. -/
theorem Executes.require {i : Instr} {ok : Bool} {c : ErrCode} {s : State} {k : Outcome}
    (h : ok = true → Executes i s k) : Executes i s (require ok c s k) := by
  cases ok with
  | true => exact h rfl
  | false => exact .next (.ends i c)

theorem Executes.work {i : Instr} {s u : State} (ha : allowsData s = true) (h : DataWork s u) :
    Executes i s (done u) :=
  .next (.data i u (bne_iff_ne.mp ha) h)

theorem exec_executes (i : Instr) (s : State) : Executes i s (exec i s) := by
  cases i with
  | nop => exact .next (.ends _ _)
  | cksump | cksumf | valid | cvtv2e => exact .require fun ha => .require fun _ => .work ha {}
  | encpos | encvolt => exact .require fun ha => .work ha (buildMotion_work _ _ _ s).withCheckResult
  | encraw => exact .require fun ha => .require fun hL => .work ha (sealRaw_work hL).withCheckResult
  | decode =>
    exact .require fun ha => .require fun _ => .require fun _ =>
      .work ha { decodeFrame_work (receiveValid s) s with }
  | cvtd2r | cvtr2d | cvtc2p => exact .require fun ha => .work ha {}
  | gen => exact .require fun ha => .require fun _ => .work ha (gen_work s)
  | ctlaw => exact .require fun ha => .work ha (ctlaw_work s)
  | init => exact .require fun hs => .next (.init (beq_iff_eq.mp hs))
  | start => exact .require fun hs => .require fun hc => .next (.start (beq_iff_eq.mp hs) hc)
  | stop =>
    refine .require fun ha => .ite (fun hs => .next (.stopLoop hs)) fun hs => .next (.stopLink ?_)
    rw [allowsStop, Bool.or_eq_true, beq_iff_eq, beq_iff_eq] at ha
    exact ha.resolve_right hs
  | reset =>
    refine .require fun ha => .ite (fun hs => .next (.resetLink hs)) fun hs => .next (.reset ?_)
    rw [allowsData, bne_iff_ne] at ha
    cases h : s.status.state <;> simp_all
  | cycle1 =>
    refine .require fun hs => .require fun hc => .next ?_
    rw [Bool.and_eq_true] at hc
    exact .cycle1 (beq_iff_eq.mp hs) hc.1 hc.2

end Sys2Proof.Machine
end

section
/-! PROOFS. The rules of the invariant: which changes keep it, and that a sealed frame is one (R88). -/

namespace Sys2Proof.Machine

/-! ### Rules of the invariant -/

theorem configOk_congr {s t : State} (hctrl : t.cfg.ctrl = s.cfg.ctrl)
    (hptr : t.cfg.ptrSens = s.cfg.ptrSens) (hlayout : t.cfg.layout = s.cfg.layout)
    (hlayout2 : t.cfg.layout2 = s.cfg.layout2) (hlen : ctrlMode s = .raw → t.txLen = s.txLen) :
    configOk t = configOk s := by
  have hmode : ctrlMode t = ctrlMode s := by rw [ctrlMode, hctrl]; rfl
  have hgen : generatorReady t = generatorReady s := by
    rw [generatorReady, ctrlGen, hctrl, hptr]; rfl
  have hcount : touchCount t = touchCount s := by rw [touchCount, hlayout2]; rfl
  have hneed : need t = need s := by
    rw [need, posOff, velOff, curOff, curStride, touchOff, hcount, hlayout, hlayout2]; rfl
  unfold configOk
  rw [hmode, hgen, hcount, hneed]
  cases h : ctrlMode s
  case raw => rw [hlen h]
  all_goals rfl

/-- The clauses that need a proof when only data has changed; the others are those of `s`. -/
theorem Inv.of_sameControl {s t : State} (h : Inv s) (hc : SameControl s t)
    (txWf : t.txbuf.wf Config.txMax = true) (rxWf : t.rxbuf.wf Config.rxMax = true)
    (exchange : ∀ tx, s.xfer = .exchange tx → t.txLen = s.txLen ∧ t.txbuf = s.txbuf)
    (config : cycleActive s → configOk t = true)
    (frame : cycleActive s → s.status.stage = .exchange → t.txLen = s.txLen ∧ t.txbuf = s.txbuf)
    (rxLen : cycleActive s → t.rxLen = s.rxLen ∧ t.cfg.ctrl = s.cfg.ctrl) : Inv t := by
  obtain ⟨state, busy, link, stopReq, stage, fatalCode, pending, t0, ta, xfer, oneShot, afterClose, now⟩
    := hc
  have hcycle : cycleActive t ↔ cycleActive s := by rw [cycleActive, state, oneShot]
  refine { txWf, rxWf, busy := ?_, link := ?_, stopReq := ?_, stage := ?_, oneShot := ?_, opening := ?_,
           exchange := ?_, closing := ?_, config := fun ha => config (hcycle.mp ha), frame := ?_,
           rxLen := ?_, fatal := ?_, clock := ?_ }
  · rw [busy, pending]; exact h.busy
  · rw [link, state]; exact h.link
  · rw [stopReq, state]; exact h.stopReq
  · rw [hcycle, stage]; exact h.stage
  · rw [oneShot, state, pending, stage]; exact h.oneShot
  · rw [xfer, state, pending, oneShot]; exact h.opening
  · intro tx htx
    rw [xfer] at htx
    obtain ⟨hlen, hbuf⟩ := exchange tx htx
    rw [hcycle, stage, hlen, hbuf]
    exact h.exchange tx htx
  · rw [xfer, oneShot, state, pending, afterClose, stage, stopReq]; exact h.closing
  · intro ha hg
    rw [stage] at hg
    obtain ⟨hlen, hbuf⟩ := frame (hcycle.mp ha) hg
    rw [hlen, hbuf]
    exact h.frame (hcycle.mp ha) hg
  · intro ha
    rw [state, oneShot, stage] at ha
    obtain ⟨hlen, hctrl⟩ := rxLen (ha.imp_right And.left)
    rw [hctrl] at ha
    rw [hlen]
    exact h.rxLen ha
  · rw [fatalCode, state]; exact h.fatal
  · obtain ⟨h0, ha⟩ := h.clock
    rw [t0, ta]
    exact ⟨h0.trans now, ha.trans now⟩

/-- A change of none of the fields that the invariant reads. -/
theorem Inv.of_same {s t : State} (h : Inv s) (hc : SameControl s t) (hy : SameCycle s t) : Inv t :=
  h.of_sameControl hc (hy.txbuf ▸ h.txWf) (hy.rxbuf ▸ h.rxWf) (fun _ _ => ⟨hy.txLen, hy.txbuf⟩)
    (fun ha => (configOk_congr hy.ctrl hy.ptrSens hy.layout hy.layout2 fun _ => hy.txLen).trans
      (h.config ha))
    (fun _ _ => ⟨hy.txLen, hy.txbuf⟩) (fun _ => ⟨hy.rxLen, hy.ctrl⟩)

/-- Nothing is in progress: no cycle and no request. -/
structure AtRest (s : State) : Prop where
  cycle : ¬ cycleActive s
  xfer : s.xfer = .none

/-- At rest any data may change, as long as the buffers stay canonical. -/
theorem Inv.of_atRest {s t : State} (h : Inv s) (hr : AtRest s) (hc : SameControl s t)
    (txWf : t.txbuf.wf Config.txMax = true) (rxWf : t.rxbuf.wf Config.rxMax = true) : Inv t :=
  h.of_sameControl hc txWf rxWf (fun tx htx => by rw [hr.xfer] at htx; cases htx)
    (fun ha => absurd ha hr.cycle) (fun ha => absurd ha hr.cycle) (fun ha => absurd ha hr.cycle)

/-- The invariant of a state at rest. -/
theorem inv_of_atRest {s : State} (hr : AtRest s) (txWf : s.txbuf.wf Config.txMax = true)
    (rxWf : s.rxbuf.wf Config.rxMax = true) (busy : s.status.busy = s.pending.isSome)
    (link : s.status.link = true ↔ s.status.state = .initialized) (stopReq : s.status.stopReq = false)
    (stage : s.status.stage = .boundary) (fatal : s.err.fatalCode ≠ .none → s.status.state = .stopped)
    (clock : s.t0.toNat ≤ s.env.now.toNat ∧ s.ta.toNat ≤ s.env.now.toNat) : Inv s where
  txWf := txWf
  rxWf := rxWf
  busy := busy
  link := by rw [link, or_iff_left fun hs => hr.cycle (.inl hs)]
  stopReq hq := by rw [stopReq] at hq; cases hq
  stage _ := stage
  oneShot ho := absurd (.inr ho) hr.cycle
  opening hx := by rw [hr.xfer] at hx; cases hx
  exchange tx hx := by rw [hr.xfer] at hx; cases hx
  closing hx := by rw [hr.xfer] at hx; cases hx
  config ha := absurd ha hr.cycle
  frame ha := absurd ha hr.cycle
  rxLen ha := absurd (ha.imp_right And.left) hr.cycle
  fatal := fatal
  clock := clock

/-- A command completes when it has no request in flight and no cycle in progress. -/
theorem Inv.complete {s : State} (h : Inv s) (hx : s.xfer = .none) (ho : s.oneShot = false)
    (c : ErrCode) : Inv (complete c s) :=
  { h with
    busy := rfl
    oneShot := fun hone => by rw [complete_oneShot, ho] at hone; cases hone
    opening := fun hopen => by rw [complete_xfer, hx] at hopen; cases hopen
    closing := fun hclose => by rw [complete_xfer, hx] at hclose; cases hclose }

/-- A fatal error leaves the block at rest in STOPPED. -/
theorem Inv.fatalEntry {s : State} (h : Inv s) (c : ErrCode) (g : Stage) : Inv (Machine.fatal c g s) :=
  inv_of_atRest ⟨by simp [cycleActive], by simp⟩ (by simpa using h.txWf) (by simpa using h.rxWf)
    (by cases hs : commandStarted s <;> simp [hs, h.busy]) (by simp) (by simp) (by simp) (by simp)
    (by simpa using h.clock)

theorem not_cycleActive {s : State} (hs : s.status.state ≠ .running) (ho : s.oneShot = false) :
    ¬ cycleActive s := by
  simp [cycleActive, hs, ho]

theorem inv_resetIn (e : Env) : Inv (State.resetIn e) :=
  inv_of_atRest ⟨not_cycleActive nofun rfl, rfl⟩ rfl rfl rfl ⟨nofun, nofun⟩ rfl rfl
    (fun h => absurd rfl h) ⟨Nat.zero_le _, Nat.zero_le _⟩

/-- The reset clear with the completion of the RESET that made it. -/
theorem inv_resetClear (c : ErrCode) (s : State) : Inv (complete c (resetClear s)) :=
  inv_of_atRest ⟨not_cycleActive nofun rfl, rfl⟩ rfl rfl rfl ⟨nofun, nofun⟩ rfl rfl
    (fun h => absurd rfl h) ⟨Nat.zero_le _, Nat.zero_le _⟩

/-! ### Sealed frames -/

/-- Sealing changes the two check bytes alone. -/
theorem memRead_sealFrame {m : Memory} {L k : Nat} (h2 : k ≠ L - 2) (h1 : k ≠ L - 1) :
    memRead (sealFrame m L) k = memRead m k := by
  rw [sealFrame, memRead_memWrite_of_ne h1, memRead_memWrite_of_ne h2]

/-- The check bytes of a sealed frame: each is its checksum of the bytes before it (R103). -/
theorem memRead_sealFrame_checks {m : Memory} {L : Nat} (h : m.wf Config.txMax = true) (hlow : 2 ≤ L)
    (hhigh : L ≤ Config.txMax) :
    (memRead (sealFrame m L) (L - 2)).toNat =
        (256 - (∑ k ∈ Finset.Ico 1 (L - 2), (memRead (sealFrame m L) k).toNat) % 256) % 256 ∧
      (memRead (sealFrame m L) (L - 1)).toNat =
        (256 - (∑ k ∈ Finset.Ico 0 (L - 1), (memRead (sealFrame m L) k).toNat) % 256) % 256 := by
  have hwf : (memWrite m (L - 2) (cksP (memRead m) L)).wf Config.txMax = true :=
    memWrite_wf h (by omega)
  have hpay : ∀ k ∈ Finset.Ico 1 (L - 2),
      (memRead (sealFrame m L) k).toNat = (memRead m k).toNat := by
    intro k hk
    have hk := Finset.mem_Ico.mp hk
    rw [memRead_sealFrame (by omega) (by omega)]
  have hframe : ∀ k ∈ Finset.Ico 0 (L - 1), (memRead (sealFrame m L) k).toNat =
      (memRead (memWrite m (L - 2) (cksP (memRead m) L)) k).toNat := by
    intro k hk
    have hk := Finset.mem_Ico.mp hk
    rw [sealFrame, memRead_memWrite_of_ne (by omega)]
  rw [Finset.sum_congr rfl hpay, Finset.sum_congr rfl hframe]
  refine ⟨?_, ?_⟩
  · rw [sealFrame, memRead_memWrite_of_ne (by omega), memRead_memWrite_self h, cksP_toNat]
  · rw [sealFrame, memRead_memWrite_self hwf, cksF_toNat]

theorem sum_Ico_pred_add (B : Nat → Byte) {lo hi : Nat} (h : lo < hi) :
    (∑ k ∈ Finset.Ico lo (hi - 1), (B k).toNat) + (B (hi - 1)).toNat =
      ∑ k ∈ Finset.Ico lo hi, (B k).toNat := by
  obtain ⟨n, rfl⟩ : ∃ n, hi = n + 1 := ⟨hi - 1, by omega⟩
  exact (Finset.sum_Ico_succ_top (by omega) _).symm

/-- Both sums of a sealed frame are 0 mod 256 (R88). -/
theorem sealFrame_sums {m : Memory} {L : Nat} (h : m.wf Config.txMax = true) (hlow : 2 < L)
    (hhigh : L ≤ Config.txMax) :
    (∑ k ∈ Finset.Ico 1 (L - 1), (memRead (sealFrame m L) k).toNat) % 256 = 0 ∧
      (∑ k ∈ Finset.range L, (memRead (sealFrame m L) k).toNat) % 256 = 0 := by
  obtain ⟨hpay, hframe⟩ := memRead_sealFrame_checks h (by omega) hhigh
  have hsumP := sum_Ico_pred_add (memRead (sealFrame m L)) (lo := 1) (hi := L - 1) (by omega)
  have hsumF := sum_Ico_pred_add (memRead (sealFrame m L)) (lo := 0) (hi := L) (by omega)
  rw [show L - 1 - 1 = L - 2 by omega] at hsumP
  rw [Finset.range_eq_Ico]
  omega

/-- A frame of 5 bytes or more whose first byte is its length is a sealed frame once it is sealed
(R80, R88). -/
theorem sealFrame_sealed {m : Memory} {L : Nat} (h : m.wf Config.txMax = true) (hlow : 5 ≤ L)
    (hhigh : L ≤ Config.txMax) (hlen : (memRead m 0).toNat = L) : Sealed (memRead (sealFrame m L)) L := by
  obtain ⟨hpay, hframe⟩ := sealFrame_sums h (by omega) hhigh
  have hfirst : memRead (sealFrame m L) 0 = memRead m 0 := memRead_sealFrame (by omega) (by omega)
  refine ⟨hlow, by rw [hfirst, hlen], hpay, hframe, 0, by omega, ?_⟩
  rw [hfirst]
  rintro hzero
  rw [hzero] at hlen
  exact absurd hlen (by simp; omega)

theorem memRead_motionBody_zero {mode : Byte} {conv : Int → Int} {s : State}
    (h : s.txbuf.wf Config.txMax = true) : memRead (motionBody mode conv s) 0 = 0x11 := by
  rw [motionBody, memRead_memWriteBytes h (by simp [motionPayload, wire16, Config.txMax]),
    if_pos ⟨Nat.le_refl _, by simp⟩]
  rfl

theorem buildMotion_sealed (mode : Byte) (conv : Int → Int) (range : Int → Bool) {s : State}
    (h : s.txbuf.wf Config.txMax = true) :
    Sealed (memRead (buildMotion mode conv range s).txbuf) 17 := by
  rw [buildMotion, rangeEvent_txbuf]
  exact sealFrame_sealed (motionBody_wf h) (by decide) (by decide)
    (by rw [memRead_motionBody_zero h]; rfl)

theorem sealRaw_sealed {s : State} (h : s.txbuf.wf Config.txMax = true)
    (hL : rawLengthOk s.txLen.toNat = true) : Sealed (memRead (sealRaw s).txbuf) s.txLen.toNat := by
  obtain ⟨hlow, hhigh⟩ := rawLengthOk_iff.mp hL
  exact sealFrame_sealed (memWrite_wf h (by decide)) hlow hhigh (by rw [memRead_memWrite_self h])

end Sys2Proof.Machine
end

section
/-! PROOFS. Every step keeps the invariant: the stages, the commands, the Transport's answers, the host's
accesses and the reset input. -/

namespace Sys2Proof.Machine

/-! ### Fields of `CTRL` -/

theorem ctrlMode_raw_iff {s : State} : ctrlMode s = .raw ↔ s.cfg.ctrl.extractLsb' 0 2 = 3#2 := by
  unfold ctrlMode
  generalize s.cfg.ctrl.extractLsb' 0 2 = x
  revert x
  decide

theorem ctrlMode_voltCl_iff {s : State} : ctrlMode s = .voltCl ↔ s.cfg.ctrl.extractLsb' 0 2 = 2#2 := by
  unfold ctrlMode
  generalize s.cfg.ctrl.extractLsb' 0 2 = x
  revert x
  decide

/-! ### The invariant along a cycle -/

theorem Inv.stopReq_false {s : State} (h : Inv s) (hs : s.status.state ≠ .running) :
    s.status.stopReq = false :=
  Bool.eq_false_iff.mpr fun hq => hs (h.stopReq hq)

theorem Inv.oneShot_false {s : State} (h : Inv s) (hs : s.status.state ≠ .initialized) :
    s.oneShot = false :=
  Bool.eq_false_iff.mpr fun ho => hs (h.oneShot ho).1

/-- What every stage starts from: the invariant, in a cycle, with no request in flight. -/
structure InStage (s : State) : Prop where
  inv : Inv s
  xfer : s.xfer = .none
  cycle : cycleActive s

theorem InStage.of_same {s u : State} (h : InStage s) (hc : SameControl s u) (hy : SameCycle s u) :
    InStage u where
  inv := h.inv.of_same hc hy
  xfer := hc.xfer.trans h.xfer
  cycle := by rw [cycleActive, hc.state, hc.oneShot]; exact h.cycle

/-- A stage hands over to the stage `g`. A CYCLE1 cycle runs no BOUNDARY and no PACE. -/
theorem InStage.inv_setStage {s : State} (h : InStage s) (g : Stage)
    (hone : s.oneShot = true → g ≠ .boundary ∧ g ≠ .pace)
    (hframe : g = .exchange → s.txLen.toNat ≤ Config.txMax ∧ Sealed (memRead s.txbuf) s.txLen.toNat)
    (hdecode : s.oneShot = true → g = .decode → s.rxLen.toNat ≤ Config.rxMax) :
    Inv (setStage g s) :=
  { h.inv with
    stage := fun hn => absurd h.cycle hn
    oneShot := fun ho => ⟨(h.inv.oneShot ho).1, (h.inv.oneShot ho).2.1, hone ho⟩
    exchange := fun tx hx => by rw [setStage_xfer, h.xfer] at hx; cases hx
    closing := fun hx => by rw [setStage_xfer, h.xfer] at hx; cases hx
    frame := fun _ => hframe
    rxLen := by
      rintro (hs | ⟨ho, hm | hg⟩)
      · exact h.inv.rxLen (.inl hs)
      · exact h.inv.rxLen (.inr ⟨ho, .inl hm⟩)
      · exact hdecode ho hg }

/-- The stages BOUNDARY and PACE are RUNNING's alone. -/
theorem InStage.running {s : State} (h : InStage s)
    (hg : s.status.stage = .boundary ∨ s.status.stage = .pace) :
    s.status.state = .running ∧ s.oneShot = false := by
  have ho : s.oneShot = false := Bool.eq_false_iff.mpr fun ho => by
    obtain ⟨-, -, hb, hp⟩ := h.inv.oneShot ho
    exact hg.elim hb hp
  exact ⟨h.cycle.resolve_right (by rw [ho]; decide), ho⟩

theorem InStage.inv_stageBoundary {s : State} (h : InStage s) (hg : s.status.stage = .boundary) :
    Inv (stageBoundary s) := by
  obtain ⟨hs, ho⟩ := h.running (.inl hg)
  unfold stageBoundary
  split
  · next hq =>
    exact { h.inv with
      opening := nofun
      exchange := nofun
      closing := fun _ => ⟨ho, .inr (.inr ⟨hs, hg, hq, rfl⟩)⟩ }
  · exact h.inv_setStage .sample (fun _ => ⟨nofun, nofun⟩) nofun nofun

theorem InStage.inv_stageSample {s : State} (h : InStage s) : Inv (stageSample s) := by
  have hread : InStage { s with
      ta := s.env.now, elapsed := (s.env.now - s.t0).setWidth 32
      phase := s.cfg.phaseRate * (s.env.now - s.t0).setWidth 32 } :=
    ⟨{ h.inv with clock := ⟨h.inv.clock.1, Nat.le_refl _⟩ }, h.xfer, h.cycle⟩
  exact hread.inv_setStage .generate (fun _ => ⟨nofun, nofun⟩) nofun nofun

theorem InStage.inv_stageGenerate {s : State} (h : InStage s) : AllNext Inv (stageGenerate s) := by
  refine .ite (fun _ => .next ?raw) fun _ => .ite (fun _ => .next ?gen) fun _ => .fault _
  case raw => exact h.inv_setStage .control (fun _ => ⟨nofun, nofun⟩) nofun nofun
  case gen =>
    exact (h.of_same (gen_work s).toSameControl (gen_sameCycle s)).inv_setStage .control
      (fun _ => ⟨nofun, nofun⟩) nofun nofun

theorem InStage.inv_stageControl {s : State} (h : InStage s) : Inv (stageControl s) := by
  have hnext {u : State} (hu : InStage u) : Inv (setStage .encode u) :=
    hu.inv_setStage .encode (fun _ => ⟨nofun, nofun⟩) nofun nofun
  unfold stageControl
  apply hnext
  split
  · exact h.of_same {} {}
  · exact h.of_same {} {}
  · split
    · exact h.of_same (ctlaw_work s).toSameControl (ctlaw_sameCycle s)
    · exact h
  · exact h

/-- ENCODE hands over to EXCHANGE with a sealed frame that fits. -/
theorem InStage.inv_encoded {s u : State} (h : InStage s) (hg : s.status.stage = .encode)
    (hw : DataWork s u) (hraw : ctrlMode s = .raw → u.txLen = s.txLen) (hfit : u.txLen.toNat ≤ Config.txMax)
    (hsealed : Sealed (memRead u.txbuf) u.txLen.toNat) : Inv (setStage .exchange u) := by
  have hinv : Inv u := h.inv.of_sameControl hw.toSameControl (hw.txWf h.inv.txWf)
    (hw.rxbuf ▸ h.inv.rxWf) (fun tx hx => by rw [h.xfer] at hx; cases hx)
    (fun ha => (configOk_congr (by rw [hw.cfg]) (by rw [hw.cfg]) (by rw [hw.cfg]) (by rw [hw.cfg])
      hraw).trans (h.inv.config ha))
    (fun _ hx => by rw [hg] at hx; cases hx) (fun _ => ⟨hw.rxLen, by rw [hw.cfg]⟩)
  have hcycle : cycleActive u := by rw [cycleActive, hw.state, hw.oneShot]; exact h.cycle
  exact InStage.inv_setStage ⟨hinv, hw.xfer.trans h.xfer, hcycle⟩ .exchange (fun _ => ⟨nofun, nofun⟩)
    (fun _ => ⟨hfit, hsealed⟩) nofun

theorem InStage.inv_encodedMotion {s : State} (h : InStage s) (hg : s.status.stage = .encode)
    (hm : ctrlMode s ≠ .raw) (mode : Byte) (conv : Int → Int) (range : Int → Bool) :
    Inv (setStage .exchange (buildMotion mode conv range s)) := by
  have hlen : (buildMotion mode conv range s).txLen = 17 := rangeEvent_txLen _ _
  refine h.inv_encoded hg (buildMotion_work _ _ _ s) (fun hr => absurd hr hm) ?_ ?_ <;> rw [hlen]
  · decide
  · exact buildMotion_sealed mode conv range h.inv.txWf

theorem InStage.inv_stageEncode {s : State} (h : InStage s) (hg : s.status.stage = .encode) :
    AllNext Inv (stageEncode s) := by
  unfold stageEncode
  cases hm : ctrlMode s with
  | pos | voltOl | voltCl => exact .next (h.inv_encodedMotion hg (by rw [hm]; nofun) _ _ _)
  | raw =>
    refine .ite (fun hL => .next ?_) fun _ => .fault _
    exact h.inv_encoded hg (sealRaw_work hL) (fun _ => rfl) (rawLengthOk_iff.mp hL).2
      (sealRaw_sealed h.inv.txWf hL)

theorem InStage.inv_stageExchange {s : State} (h : InStage s) (hg : s.status.stage = .exchange) :
    AllNext Inv (stageExchange s) := by
  refine .ite (fun hfit => .next ?_) fun _ => .fault _
  have hbytes : bytesFrom (txByte s) 0 s.txLen.toNat = bytesFrom (memRead s.txbuf) 0 s.txLen.toNat :=
    bytesFrom_congr fun j _ hj => txByte_of_lt (by omega)
  exact { h.inv with
    opening := nofun
    exchange := fun tx hx => ⟨h.cycle, hg, by cases hx; exact hbytes⟩
    closing := nofun }

/-- The end of a CYCLE1 cycle leaves the block at rest in INITIALIZED. -/
theorem InStage.inv_endCycle1 {s : State} (h : InStage s) (ho : s.oneShot = true) : Inv (endCycle1 s) := by
  have hs := (h.inv.oneShot ho).1
  have hq := h.inv.stopReq_false (by rw [hs]; nofun)
  refine inv_of_atRest ⟨not_cycleActive ?_ rfl, h.xfer⟩ h.inv.txWf h.inv.rxWf rfl ?_ hq rfl h.inv.fatal
    h.inv.clock
  · show s.status.state ≠ .running
    rw [hs]; nofun
  · show s.status.link = true ↔ s.status.state = .initialized
    rw [h.inv.link, hs]; simp

theorem InStage.inv_afterDecode {s : State} (h : InStage s) : Inv (afterDecode s) := by
  unfold afterDecode
  split
  · next ho => exact h.inv_endCycle1 ho
  · next ho =>
    have hpace : Inv (setStage .pace s) :=
      h.inv_setStage .pace (fun hone => absurd hone ho) nofun fun hone => absurd hone ho
    exact hpace.of_same {} {}

theorem InStage.inv_stageDecode {s : State} (h : InStage s) : Inv (stageDecode s) := by
  unfold stageDecode
  dsimp only
  split
  · exact (h.of_same {} {}).inv_afterDecode
  · split
    · exact Inv.fatalEntry (h.of_same {} {} : InStage (setValid _ s)).inv _ _
    · exact (h.of_same {} {}).inv_afterDecode

theorem InStage.inv_stagePace {s : State} (h : InStage s) (hg : s.status.stage = .pace) :
    Inv (stagePace s) := by
  obtain ⟨-, ho⟩ := h.running (.inr hg)
  have hone : ¬ s.oneShot = true := by rw [ho]; decide
  unfold stagePace
  split
  · exact (h.of_same {} {} : InStage { s with
      cycleCnt := s.cycleCnt + 1, ip := s.ip ||| ipCycleDone }).inv_setStage .boundary
      (fun h1 => absurd h1 hone) nofun fun h1 => absurd h1 hone
  · exact h.inv

theorem InStage.inv_stageStep {s : State} (h : InStage s) : AllNext Inv (stageStep s) := by
  unfold stageStep
  cases hg : s.status.stage with
  | boundary => exact .next (h.inv_stageBoundary hg)
  | sample => exact .next (h.inv_stageSample)
  | generate => exact h.inv_stageGenerate
  | control => exact .next (h.inv_stageControl)
  | encode => exact h.inv_stageEncode hg
  | exchange => exact h.inv_stageExchange hg
  | decode => exact .next (h.inv_stageDecode)
  | pace => exact .next (h.inv_stagePace hg)

theorem Inv.loopTurn {s : State} (h : Inv s) (hx : s.xfer = .none) : AllNext Inv (loopTurn s) :=
  .ite (fun ha => InStage.inv_stageStep ⟨h, hx, (loopActive_iff s).mp ha⟩) fun _ => .next h

/-! ### The invariant under a command -/

theorem Inv.started {s : State} (h : Inv s) (hx : s.xfer = .none) (ho : s.oneShot = false)
    (hs : s.status.state = .initialized) (hc : configOk s = true) : Inv (started s) where
  txWf := h.txWf
  rxWf := rfl
  busy := h.busy
  link := iff_of_true (h.link.mpr (.inl hs)) (.inr rfl)
  stopReq := nofun
  stage hn := absurd (.inl rfl) hn
  oneShot hone := nomatch ho.symm.trans hone
  opening hopen := nomatch hx.symm.trans hopen
  exchange tx hex := nomatch hx.symm.trans hex
  closing hclose := nomatch hx.symm.trans hclose
  config _ := hc
  frame _ hg := by cases hg
  rxLen _ := Nat.zero_le _
  fatal hf := nomatch hs.symm.trans (h.fatal hf)
  clock := ⟨Nat.le_refl _, h.clock.2⟩

theorem Inv.cycle1Start {s : State} (h : Inv s) (hx : s.xfer = .none) (hp : s.pending = some 0x54)
    (hs : s.status.state = .initialized) (hc : configOk s = true) (hr : receiveLengthOk s = true) :
    Inv (setStage .sample { s with oneShot := true }) :=
  { h with
    stage := fun hn => absurd (.inr rfl) hn
    oneShot := fun _ => ⟨hs, hp, nofun, nofun⟩
    opening := fun hopen => nomatch hx.symm.trans hopen
    exchange := fun tx hex => nomatch hx.symm.trans hex
    closing := fun hclose => nomatch hx.symm.trans hclose
    config := fun _ => hc
    frame := fun _ hg => by cases hg
    rxLen := by
      rintro (hrun | ⟨-, hm | hg⟩)
      · exact h.rxLen (.inl hrun)
      · exact receiveLengthOk_iff.mp hr (ctrlMode_voltCl_iff.mpr hm)
      · cases hg }

theorem Inv.executed {s t : State} {i : Instr} {w : Word} (h : Inv s) (hx : s.xfer = .none)
    (ho : s.oneShot = false) (hp : s.pending = some w) (hi : decodeWord w = .ok i)
    (he : Executed s i t) : Inv t := by
  have hpending (hmask : (matchMask i).2 = 0xFFFFFFFF) : s.pending = some (Sys2Proof.encode i) := by
    rw [hp, word_of_decodeWord hi hmask]
  cases he with
  | ends => exact h.complete hx ho _
  | data _ u hs hw =>
    exact (h.of_atRest ⟨not_cycleActive hs ho, hx⟩ hw.toSameControl (hw.txWf h.txWf)
      (hw.rxbuf ▸ h.rxWf)).complete (hw.xfer.trans hx) (hw.oneShot.trans ho) _
  | init hs =>
    exact { h with
      opening := fun _ => ⟨hs, hpending rfl, ho⟩
      exchange := nofun
      closing := nofun }
  | start hs hc => exact (h.started hx ho hs hc).complete hx ho _
  | stopLoop hs =>
    have hreq : Inv { s with status := { s.status with stopReq := true } } :=
      { h with
        stopReq := fun _ => hs
        closing := fun hclose => nomatch hx.symm.trans hclose }
    exact hreq.complete hx ho _
  | stopLink hs =>
    exact { h with
      opening := nofun
      exchange := nofun
      closing := fun _ => ⟨ho, .inl ⟨hs, hpending rfl, rfl⟩⟩ }
  | resetLink hs =>
    exact { h with
      opening := nofun
      exchange := nofun
      closing := fun _ => ⟨ho, .inr (.inl ⟨hs, hpending rfl, rfl⟩)⟩ }
  | reset => exact inv_resetClear _ s
  | cycle1 hs hc hr => exact h.cycle1Start hx (hpending rfl) hs hc hr

theorem Inv.commandStep {s : State} {w : Word} (h : Inv s) (hx : s.xfer = .none)
    (ho : s.oneShot = false) (hp : s.pending = some w) : AllNext Inv (commandStep w s) := by
  cases hi : decodeWord w with
  | ok i =>
    rw [commandStep_ok hi]
    exact fun t ht => h.executed hx ho hp hi (exec_executes i s t ht)
  | error e => rw [commandStep_error hi]; exact .next (h.complete hx ho _)

theorem Inv.engineTurn {s : State} (h : Inv s) : AllNext Inv (engineTurn s) := by
  rcases engineTurn_cases s with ⟨-, he⟩ | ⟨w, hx, hp, ho, he⟩ | ⟨hx, -, he⟩ <;> rw [he]
  · exact .next h
  · exact h.commandStep hx ho hp
  · exact h.loopTurn hx

/-! ### The invariant under an answer of the Transport -/

theorem Inv.initDone {s : State} (h : Inv s) (hx : s.xfer = .opening) : Inv (initDone s) := by
  obtain ⟨hs, -, ho⟩ := h.opening hx
  have hidle : ¬ cycleActive s := not_cycleActive (by rw [hs]; nofun) ho
  have hq := h.stopReq_false (by rw [hs]; nofun)
  refine inv_of_atRest ⟨not_cycleActive nofun ho, rfl⟩ h.txWf rfl rfl (iff_of_true rfl rfl) hq
    (h.stage hidle) (fun hf => ?_) ⟨Nat.le_refl _, h.clock.2⟩
  exact nomatch hs.symm.trans (h.fatal hf)

theorem Inv.exchangeDone {s : State} {tx rx : List Byte} (h : Inv s) (hx : s.xfer = .exchange tx)
    (hrx : rx.length ≤ Config.rxMax) : Inv (exchangeDone rx s) := by
  obtain ⟨hcycle, -⟩ := h.exchange tx hx
  have hlen : (BitVec.ofNat 8 rx.length).toNat ≤ Config.rxMax := by
    rw [BitVec.toNat_ofNat]
    exact (Nat.mod_le _ _).trans hrx
  have hreceived : InStage { s with
      rxbuf := memOfBytes 0 rx, rxLen := BitVec.ofNat 8 rx.length, xfer := .none } :=
    ⟨{ h with
        rxWf := memOfBytes_wf hrx
        opening := nofun
        exchange := nofun
        closing := nofun
        rxLen := fun _ => hlen }, rfl, hcycle⟩
  exact hreceived.inv_setStage .decode (fun _ => ⟨nofun, nofun⟩) nofun fun _ _ => hlen

theorem Inv.closeDone {s : State} (h : Inv s) (hx : s.xfer = .closing) : Inv (closeDone s) := by
  obtain ⟨ho, -⟩ := h.closing hx
  have hhalted : Inv { s with
      xfer := .none
      status := { s.status with
        link := false, stopReq := false, stage := .boundary, state := .stopped } } :=
    inv_of_atRest ⟨not_cycleActive nofun ho, rfl⟩ h.txWf h.rxWf h.busy ⟨nofun, nofun⟩ rfl rfl
      (fun _ => rfl) h.clock
  unfold Machine.closeDone
  dsimp only
  split
  · exact hhalted.complete rfl ho _
  · exact hhalted

theorem Inv.transportTurn {s : State} (h : Inv s) (a : Answer) : Inv (transportTurn a s) := by
  rcases transportTurn_cases a s with ⟨-, e⟩ | ⟨hx, e | e | e⟩ | ⟨⟨tx, hx⟩, ⟨rx, hrx, e⟩ | e⟩ |
    ⟨hx, ⟨-, e⟩ | ⟨-, e | e⟩⟩ <;> rw [e]
  · exact h
  · exact h.initDone hx
  · exact h.fatalEntry _ _
  · exact h.fatalEntry _ _
  · exact h.exchangeDone hx hrx
  · exact h.fatalEntry _ _
  · exact inv_resetClear _ s
  · exact h.closeDone hx
  · exact h.fatalEntry _ _

/-! ### The invariant under a host access -/

theorem Inv.pending_none {s : State} (h : Inv s) (hb : s.status.busy = false) : s.pending = none := by
  rw [h.busy] at hb
  simpa using hb

theorem Inv.oneShot_false_of_idle {s : State} (h : Inv s) (hp : s.pending = none) :
    s.oneShot = false :=
  Bool.eq_false_iff.mpr fun ho => nomatch hp.symm.trans (h.oneShot ho).2.1

/-- A command is pending whenever one has started; so a block that is not BUSY and outside RUNNING is at
rest. -/
theorem Inv.atRest_of_gateOpen {s : State} (h : Inv s) (hg : gateOpen s = true) : AtRest s := by
  rw [gateOpen, Bool.and_eq_true, bne_iff_ne, Bool.not_eq_true'] at hg
  obtain ⟨hs, hb⟩ := hg
  have hp := h.pending_none hb
  have ho := h.oneShot_false_of_idle hp
  have hcycle := not_cycleActive hs ho
  refine ⟨hcycle, ?_⟩
  cases hx : s.xfer with
  | none => rfl
  | opening => exact nomatch hp.symm.trans (h.opening hx).2.1
  | exchange tx => exact absurd (h.exchange tx hx).1 hcycle
  | closing =>
    obtain ⟨-, ⟨-, hp', -⟩ | ⟨-, hp', -⟩ | ⟨hrun, -⟩⟩ := h.closing hx
    · exact nomatch hp.symm.trans hp'
    · exact nomatch hp.symm.trans hp'
    · exact absurd hrun hs

/-- Command issue: dropped with OVERRUN while BUSY, else no command was pending (R74). -/
theorem Inv.issue {s : State} (h : Inv s) (v : Word) : Inv (issue v s) := by
  unfold Machine.issue
  split
  · exact h.of_same {} {}
  · next hb =>
    have hp := h.pending_none (Bool.not_eq_true _ ▸ hb)
    exact { h with
      busy := rfl
      oneShot := fun ho => nomatch hp.symm.trans (h.oneShot ho).2.1
      opening := fun hx => nomatch hp.symm.trans (h.opening hx).2.1
      closing := fun hx => by
        obtain ⟨ho, ⟨-, hp', -⟩ | ⟨-, hp', -⟩ | hloop⟩ := h.closing hx
        · exact nomatch hp.symm.trans hp'
        · exact nomatch hp.symm.trans hp'
        · exact ⟨ho, .inr (.inr hloop)⟩ }

theorem Inv.storeLive {s : State} {r : Reg} (h : Inv s) (hr : regAccess r = .live) (v : Word) :
    Inv (storeReg r v s) := by
  cases r
  case cmd => exact h.issue v
  case status | ie | ip | ptrIn | setpoint =>
    exact h.of_same (by constructor <;> rfl) (by constructor <;> rfl)
  all_goals cases hr

theorem bufWriteWord_wf {size w : Nat} {m : Memory} (h : m.wf size = true) (hw : 4 * w + 4 ≤ size)
    (v : Word) : (bufWriteWord m w v).wf size = true :=
  memWriteBytes_wf h hw

theorem txWord_fits (w : Fin 16) : 4 * w.val + 4 ≤ Config.txMax := by
  rw [Config.txMax]
  omega

theorem rxWord_fits (w : Fin 32) : 4 * w.val + 4 ≤ Config.rxMax := by
  rw [Config.rxMax]
  omega

/-- An accepted write of a gated register changes data alone. -/
theorem storeGated_sameControl {r : Reg} (hr : regAccess r = .gated) (v : Word) (s : State) :
    SameControl s (storeReg r v s) := by
  cases r
  case ctrl | period | kGain | phaseRate | sinAmp | sinOff | ptrSens | cvtIn | txLen | rxLen | proto |
    layout | layout2 | cmdv | txWord | rxWord => constructor <;> rfl
  all_goals cases hr

theorem storeReg_wf {s : State} (r : Reg) (v : Word) (htx : s.txbuf.wf Config.txMax = true)
    (hrx : s.rxbuf.wf Config.rxMax = true) :
    (storeReg r v s).txbuf.wf Config.txMax = true ∧ (storeReg r v s).rxbuf.wf Config.rxMax = true := by
  cases r
  case txWord w => exact ⟨bufWriteWord_wf htx (txWord_fits w) v, hrx⟩
  case rxWord w => exact ⟨htx, bufWriteWord_wf hrx (rxWord_fits w) v⟩
  case cmd =>
    show (Machine.issue v s).txbuf.wf _ = true ∧ (Machine.issue v s).rxbuf.wf _ = true
    unfold issue
    split <;> exact ⟨htx, hrx⟩
  all_goals exact ⟨htx, hrx⟩

theorem Inv.writeReg {s : State} (h : Inv s) (r : Reg) (v : Word) : Inv (writeReg r v s) := by
  unfold Machine.writeReg
  cases hr : regAccess r with
  | readOnly => exact h
  | live => exact h.storeLive hr v
  | gated =>
    dsimp only
    split
    · next hg =>
      obtain ⟨htx, hrx⟩ := storeReg_wf r v h.txWf h.rxWf
      exact h.of_atRest (h.atRest_of_gateOpen hg) (storeGated_sameControl hr v s) htx hrx
    · exact h.of_same {} {}

theorem Inv.hostTurn {s : State} (h : Inv s) (a : HostAccess) : Inv (hostTurn a s) := by
  unfold Machine.hostTurn
  cases a with
  | read addr width =>
    dsimp only
    split
    · exact h.of_same {} {}
    · exact h.of_same {} {}
  | write addr width v =>
    dsimp only
    split
    · exact h.writeReg _ v
    · exact h.of_same {} {}

/-! ### The invariant under every turn -/

/-- The surroundings may change in any way, but for the Clock moving back. -/
theorem Inv.withEnv {s : State} (h : Inv s) (e : Env) (he : s.env.now.toNat ≤ e.now.toNat) :
    Inv { s with env := e } :=
  h.of_same { now := he } {}

theorem Inv.clockTurn {s : State} (h : Inv s) (x : Ticks) : Inv (clockTurn x s) :=
  h.withEnv _ (clockTurn_now_le x s)

theorem Inv.resetPinTurn {s : State} (h : Inv s) (a : Bool) : Inv (resetPinTurn a s) := by
  unfold Machine.resetPinTurn
  split
  · exact inv_resetIn _
  · exact h

theorem Inv.turnInReset {s : State} (h : Inv s) (u : Turn) : Inv (turnInReset u s) := by
  cases u with
  | engine | transport => exact h
  | host a =>
    cases a with
    | read => exact h.of_same (t := answerHost 0 s) {} {}
    | write => exact h
  | clock x => exact h.clockTurn x
  | resetPin a => exact h.resetPinTurn a

theorem Inv.takeTurn {s : State} (h : Inv s) (u : Turn) : AllNext Inv (takeTurn u s) := by
  cases hp : s.env.resetPin with
  | true => rw [takeTurn_asserted hp]; exact .next (h.turnInReset u)
  | false =>
    rw [takeTurn_released hp]
    cases u with
    | engine => exact h.engineTurn
    | host a => exact .next (h.hostTurn a)
    | transport a => exact .next (h.transportTurn a)
    | clock x => exact .next (h.clockTurn x)
    | resetPin a => exact .next (h.resetPinTurn a)

/-- Settles O54: the surroundings move first, then one agent takes its turn, and each turn keeps every
clause. -/
theorem stepKeepsInv : Obligations.StepKeepsInv := by
  intro s t hinv hstep
  obtain ⟨u, e, hturn, -, -, hnow⟩ := step_is_turn s
  exact (hinv.withEnv e hnow).takeTurn u t (hturn ▸ hstep)

end Sys2Proof.Machine
end

section
/-! PROOFS. Two whole-machine rules: the feedback registers change only as a counted snapshot (R45, R64),
and a fatal record stands until RESET or hardware reset (R26, R148). -/

namespace Sys2Proof.Machine

/-! ### The feedback and its count -/

/-- What a step from `s` to `t` can do to the feedback registers. -/
def FeedbackStep (s t : State) : Prop :=
  t.fb = s.fb ∧ t.seq = s.seq ∨ t.fb = decodedFeedback t ∧ t.seq = s.seq + 1 ∨
    t.fb = Feedback.reset ∧ t.seq = 0

/-- `t` agrees with `s` in the feedback and in what a decode reads. -/
structure SameSnapshot (s t : State) : Prop where
  fb : t.fb = s.fb := by simp
  seq : t.seq = s.seq := by simp
  cfg : t.cfg = s.cfg := by simp
  rxbuf : t.rxbuf = s.rxbuf := by simp
  env : t.env = s.env := by simp

/-- A decode reads `RXBUF`, the layout and, beyond the buffer, the draw counter. -/
theorem decodedFeedback_congr {s t : State} (hcfg : t.cfg = s.cfg) (hbuf : t.rxbuf = s.rxbuf)
    (henv : t.env = s.env) : decodedFeedback t = decodedFeedback s := by
  obtain ⟨cfg, _, _, _, _, _, _, _, _, _, _, _, _, _, _, _, _, rxbuf, _, _, _, _, _, _, env⟩ := t
  subst hcfg hbuf henv
  rfl

theorem FeedbackStep.kept {s t : State} (hfb : t.fb = s.fb) (hseq : t.seq = s.seq) :
    FeedbackStep s t := .inl ⟨hfb, hseq⟩

theorem FeedbackStep.cleared {s t : State} (hfb : t.fb = Feedback.reset) (hseq : t.seq = 0) :
    FeedbackStep s t := .inr (.inr ⟨hfb, hseq⟩)

/-- What follows the work of a step and leaves the snapshot alone. -/
theorem FeedbackStep.andThen {s u t : State} (h : FeedbackStep s u) (ht : SameSnapshot u t) :
    FeedbackStep s t := by
  rw [FeedbackStep, decodedFeedback_congr ht.cfg ht.rxbuf ht.env, ht.fb, ht.seq]
  exact h

theorem DataWork.feedbackStep {s u : State} (h : DataWork s u) : FeedbackStep s u := by
  rw [FeedbackStep, decodedFeedback_congr h.cfg h.rxbuf h.env, ← or_assoc]
  exact .inl h.feedback

theorem Executed.feedbackStep {s t : State} {i : Instr} (h : Executed s i t) : FeedbackStep s t := by
  cases h with
  | ends | init | start | stopLoop | stopLink | resetLink | cycle1 => exact .kept rfl rfl
  | data _ u _ hw => exact hw.feedbackStep.andThen {}
  | reset => exact .cleared rfl rfl

theorem FeedbackStep.setStage {s u : State} (h : FeedbackStep s u) (g : Stage) :
    FeedbackStep s (setStage g u) := h.andThen {}

theorem commandStep_feedback (w : Word) (s : State) : AllNext (FeedbackStep s) (commandStep w s) := by
  cases hi : decodeWord w with
  | ok i =>
    rw [commandStep_ok hi]
    exact fun t ht => (exec_executes i s t ht).feedbackStep
  | error e => rw [commandStep_error hi]; exact .next (.kept rfl rfl)

theorem endCycle1_sameSnapshot (s : State) : SameSnapshot s (endCycle1 s) := by
  constructor <;> rfl

theorem afterDecode_sameSnapshot (s : State) : SameSnapshot s (afterDecode s) := by
  unfold afterDecode
  split
  · exact endCycle1_sameSnapshot s
  · exact {}

theorem FeedbackStep.afterDecode {s u : State} (h : FeedbackStep s u) :
    FeedbackStep s (afterDecode u) := h.andThen (afterDecode_sameSnapshot u)

theorem stageBoundary_feedback (s : State) : FeedbackStep s (stageBoundary s) := by
  unfold stageBoundary
  split <;> exact .kept rfl rfl

theorem stageGenerate_feedback (s : State) : AllNext (FeedbackStep s) (stageGenerate s) :=
  .ite (fun _ => .next (.kept rfl rfl)) fun _ =>
    .ite (fun _ => .next ((gen_work s).feedbackStep.setStage _)) fun _ => .fault _

theorem stageControl_feedback (s : State) : FeedbackStep s (stageControl s) := by
  unfold stageControl
  refine FeedbackStep.setStage ?_ _
  split
  · exact .kept rfl rfl
  · exact .kept rfl rfl
  · split
    · exact (ctlaw_work s).feedbackStep
    · exact .kept rfl rfl
  · exact .kept rfl rfl

theorem stageEncode_feedback (s : State) : AllNext (FeedbackStep s) (stageEncode s) := by
  unfold stageEncode
  cases ctrlMode s with
  | pos | voltOl | voltCl => exact .next ((buildMotion_work _ _ _ s).feedbackStep.setStage _)
  | raw => exact .ite (fun hL => .next ((sealRaw_work hL).feedbackStep.setStage _)) fun _ => .fault _

theorem stageDecode_feedback (s : State) : FeedbackStep s (stageDecode s) := by
  unfold stageDecode
  dsimp only
  split
  · exact FeedbackStep.afterDecode (.kept rfl rfl)
  · split
    · exact .kept (fatal_fb _ _ _) (fatal_seq _ _ _)
    · exact FeedbackStep.afterDecode (decodeFrame_work (receiveValid s) s).feedbackStep

theorem stagePace_feedback (s : State) : FeedbackStep s (stagePace s) := by
  unfold stagePace
  split <;> exact .kept rfl rfl

theorem stageStep_feedback (s : State) : AllNext (FeedbackStep s) (stageStep s) := by
  unfold stageStep
  cases s.status.stage with
  | boundary => exact .next (stageBoundary_feedback s)
  | sample => exact .next (.kept rfl rfl)
  | generate => exact stageGenerate_feedback s
  | control => exact .next (stageControl_feedback s)
  | encode => exact stageEncode_feedback s
  | exchange => exact .ite (fun _ => .next (.kept rfl rfl)) fun _ => .fault _
  | decode => exact .next (stageDecode_feedback s)
  | pace => exact .next (stagePace_feedback s)

theorem engineTurn_feedback (s : State) : AllNext (FeedbackStep s) (engineTurn s) := by
  rcases engineTurn_cases s with ⟨-, he⟩ | ⟨w, -, -, -, he⟩ | ⟨-, -, he⟩ <;> rw [he]
  · exact .next (.kept rfl rfl)
  · exact commandStep_feedback w s
  · exact .ite (fun _ => stageStep_feedback s) fun _ => .next (.kept rfl rfl)

theorem transportTurn_feedback (a : Answer) (s : State) : FeedbackStep s (transportTurn a s) := by
  have hfatal (c : ErrCode) (g : Stage) : FeedbackStep s (fatal c g s) :=
    .kept (fatal_fb c g s) (fatal_seq c g s)
  have hclose : FeedbackStep s (closeDone s) := by
    unfold closeDone
    dsimp only
    split <;> exact .kept rfl rfl
  rcases transportTurn_cases a s with ⟨-, e⟩ | ⟨-, e | e | e⟩ | ⟨-, ⟨rx, -, e⟩ | e⟩ |
    ⟨-, ⟨-, e⟩ | ⟨-, e | e⟩⟩ <;> rw [e]
  · exact .kept rfl rfl
  · exact .kept rfl rfl
  · exact hfatal _ _
  · exact hfatal _ _
  · exact .kept rfl rfl
  · exact hfatal _ _
  · exact .cleared rfl rfl
  · exact hclose
  · exact hfatal _ _

/-- A host write leaves the records, the loop state and the feedback alone. -/
theorem writeReg_records (r : Reg) (v : Word) (s : State) :
    (writeReg r v s).status.state = s.status.state ∧ (writeReg r v s).err = s.err ∧
      (writeReg r v s).fb = s.fb ∧ (writeReg r v s).seq = s.seq := by
  have hstore : (storeReg r v s).status.state = s.status.state ∧ (storeReg r v s).err = s.err ∧
      (storeReg r v s).fb = s.fb ∧ (storeReg r v s).seq = s.seq := by
    cases r
    case cmd =>
      simp only [storeReg, issue]
      split <;> exact ⟨rfl, rfl, rfl, rfl⟩
    all_goals exact ⟨rfl, rfl, rfl, rfl⟩
  unfold writeReg
  cases regAccess r with
  | readOnly => exact ⟨rfl, rfl, rfl, rfl⟩
  | live => exact hstore
  | gated =>
    dsimp only
    split
    · exact hstore
    · exact ⟨rfl, rfl, rfl, rfl⟩

/-- So does every host access. -/
theorem hostTurn_records (a : HostAccess) (s : State) :
    (hostTurn a s).status.state = s.status.state ∧ (hostTurn a s).err = s.err ∧
      (hostTurn a s).fb = s.fb ∧ (hostTurn a s).seq = s.seq := by
  unfold hostTurn
  cases a with
  | read addr width => dsimp only; split <;> exact ⟨rfl, rfl, rfl, rfl⟩
  | write addr width v =>
    dsimp only
    split
    · exact writeReg_records _ v s
    · exact ⟨rfl, rfl, rfl, rfl⟩

theorem resetPinTurn_feedback (a : Bool) (s : State) : FeedbackStep s (resetPinTurn a s) := by
  unfold resetPinTurn
  split
  · exact .cleared rfl rfl
  · exact .kept rfl rfl

theorem turnInReset_feedback (u : Turn) (s : State) : FeedbackStep s (turnInReset u s) := by
  cases u with
  | engine | transport | clock => exact .kept rfl rfl
  | host a => cases a <;> exact .kept rfl rfl
  | resetPin a => exact resetPinTurn_feedback a s

theorem takeTurn_feedback (u : Turn) (s : State) : AllNext (FeedbackStep s) (takeTurn u s) := by
  cases hp : s.env.resetPin with
  | true => rw [takeTurn_asserted hp]; exact .next (turnInReset_feedback u s)
  | false =>
    rw [takeTurn_released hp]
    cases u with
    | engine => exact engineTurn_feedback s
    | host a =>
      obtain ⟨-, -, hfb, hseq⟩ := hostTurn_records a s
      exact .next (.kept hfb hseq)
    | transport a => exact .next (transportTurn_feedback a s)
    | clock x => exact .next (.kept rfl rfl)
    | resetPin a => exact .next (resetPinTurn_feedback a s)

/-- Settles O57: each turn keeps the snapshot, publishes the one it decodes, or clears it. -/
theorem feedbackOnlyByDecode : Obligations.FeedbackOnlyByDecode := by
  intro s t hstep
  obtain ⟨u, e, hturn, -⟩ := step_is_turn s
  exact takeTurn_feedback u { s with env := e } t (hturn ▸ hstep)

/-! ### The fatal record -/

/-- `t` stands in the loop state of `s`, with its fatal record. -/
structure RecordKept (s t : State) : Prop where
  state : t.status.state = s.status.state := by rfl
  code : t.err.fatalCode = s.err.fatalCode := by rfl
  stage : t.err.fatalStage = s.err.fatalStage := by rfl

/-- In STOPPED nothing is in progress. -/
theorem Inv.atRest_of_stopped {s : State} (h : Inv s) (hs : s.status.state = .stopped) : AtRest s := by
  have hcycle : ¬ cycleActive s :=
    not_cycleActive (by rw [hs]; nofun) (h.oneShot_false (by rw [hs]; nofun))
  refine ⟨hcycle, ?_⟩
  cases hx : s.xfer with
  | none => rfl
  | opening => exact nomatch hs.symm.trans (h.opening hx).1
  | exchange tx => exact absurd (h.exchange tx hx).1 hcycle
  | closing =>
    obtain ⟨-, ⟨hs', -⟩ | ⟨hs', -⟩ | ⟨hs', -⟩⟩ := h.closing hx <;> exact nomatch hs.symm.trans hs'

/-- In STOPPED a command keeps the record, or it is a RESET, which enters IDLE (R77, R142). -/
theorem Executed.inStopped {s t : State} {i : Instr} (h : Executed s i t)
    (hs : s.status.state = .stopped) : RecordKept s t ∨ t.status.state = .idle ∧ i = .reset := by
  cases h with
  | ends => exact .inl {}
  | data _ u _ hw =>
    exact .inl ⟨hw.state, by simp [hw.err], by simp [hw.err]⟩
  | reset => exact .inr ⟨rfl, rfl⟩
  | init hs' | start hs' | stopLoop hs' | stopLink hs' | resetLink hs' | cycle1 hs' =>
    exact nomatch hs.symm.trans hs'

theorem engineTurn_inStopped {s t : State} (h : Inv s) (hs : s.status.state = .stopped)
    (ht : engineTurn s = .next t) :
    RecordKept s t ∨ t.status.state = .idle ∧ s.pending = some 0x53 := by
  rcases engineTurn_cases s with ⟨-, he⟩ | ⟨w, -, hp, -, he⟩ | ⟨-, -, he⟩ <;> rw [he] at ht
  · cases ht
    exact .inl {}
  · cases hi : decodeWord w with
    | ok i =>
      rw [commandStep_ok hi] at ht
      rcases (exec_executes i s t ht).inStopped hs with hkept | ⟨hidle, rfl⟩
      · exact .inl hkept
      · exact .inr ⟨hidle, by rw [hp, word_of_decodeWord hi rfl]; rfl⟩
    | error e =>
      rw [commandStep_error hi] at ht
      cases ht
      exact .inl {}
  · rw [loopTurn, if_neg ((loopActive_iff s).not.mpr (h.atRest_of_stopped hs).cycle)] at ht
    cases ht
    exact .inl {}

/-- A turn in STOPPED keeps the record, is a RESET, or is one of the reset input. -/
theorem takeTurn_inStopped {u : Turn} {s t : State} (h : Inv s) (hs : s.status.state = .stopped)
    (ht : takeTurn u s = .next t) :
    RecordKept s t ∨ t.status.state = .idle ∧ s.pending = some 0x53 ∨
      ∃ b, u = .resetPin b ∧ t = State.resetIn t.env := by
  have hpin (b : Bool) : RecordKept s (resetPinTurn b s) ∨
      resetPinTurn b s = State.resetIn (resetPinTurn b s).env := by
    unfold resetPinTurn
    split
    · exact .inr rfl
    · exact .inl {}
  cases hp : s.env.resetPin with
  | true =>
    rw [takeTurn_asserted hp] at ht
    cases ht
    cases u with
    | engine | transport | clock => exact .inl {}
    | host a => cases a <;> exact .inl {}
    | resetPin b => exact (hpin b).imp_right fun hr => .inr ⟨b, rfl, hr⟩
  | false =>
    rw [takeTurn_released hp] at ht
    cases u with
    | engine => exact (engineTurn_inStopped h hs ht).imp_right .inl
    | host a =>
      cases ht
      obtain ⟨hstate, herr, -⟩ := hostTurn_records a s
      exact .inl ⟨hstate, congrArg ErrReg.fatalCode herr, congrArg ErrReg.fatalStage herr⟩
    | transport a =>
      cases ht
      rw [transportTurn_none (h.atRest_of_stopped hs).xfer]
      exact .inl {}
    | clock x => cases ht; exact .inl {}
    | resetPin b => cases ht; exact (hpin b).imp_right fun hr => .inr ⟨b, rfl, hr⟩

/-- A step is one turn; a turn of the reset input is one that was scheduled. -/
theorem step_turn {s t : State} (h : step s = .next t) :
    ∃ (u : Turn) (e : Env), takeTurn u { s with env := e } = .next t ∧
      s.env.now.toNat ≤ e.now.toNat ∧
      ∀ b, u = .resetPin b → ∃ rest, s.env.agenda = .resetPin b :: rest := by
  cases hag : s.env.agenda with
  | cons u rest =>
    rw [step_scheduled hag] at h
    exact ⟨u, (scheduled rest s).env, h, Nat.le_refl _, fun b hb => ⟨rest, by rw [hb]⟩⟩
  | nil =>
    rw [step_unscheduled hag] at h
    refine ⟨ownTurn s, (unscheduled s).env, h, clockTurn_now_le _ s, fun b hb => ?_⟩
    unfold ownTurn at hb
    split at hb <;> cases hb

/-- Settles O59: a record stands in STOPPED, where every turn but RESET and the reset input keeps it. -/
theorem fatalRecordStays : Obligations.FatalRecordStays := by
  intro s t hinv hrecord hstep
  have hs := hinv.fatal hrecord
  obtain ⟨u, e, hturn, hnow, hpin⟩ := step_turn hstep
  rcases takeTurn_inStopped (hinv.withEnv e hnow) hs hturn with hkept | hreset | ⟨b, hb, ht⟩
  · exact .inl ⟨hkept.state.trans hs, hkept.code, hkept.stage⟩
  · exact .inr (.inl hreset)
  · exact .inr (.inr ⟨⟨b, hpin b hb⟩, ht⟩)

end Sys2Proof.Machine
end

section
/-! PROOFS. The configuration checks of START and CYCLE1 (R139), and stage SAMPLE (R130). -/

namespace Sys2Proof.Machine

/-! ### The configuration checks -/

theorem ctrlGen_pointer_iff {s : State} : ctrlGen s = .pointer ↔ s.cfg.ctrl.extractLsb' 2 2 = 2#2 := by
  unfold ctrlGen
  generalize s.cfg.ctrl.extractLsb' 2 2 = x
  revert x
  decide

theorem ctrlGen_reserved_iff {s : State} : ctrlGen s = .reserved ↔ s.cfg.ctrl.extractLsb' 2 2 = 3#2 := by
  unfold ctrlGen
  generalize s.cfg.ctrl.extractLsb' 2 2 = x
  revert x
  decide

/-- A generator may not run when it is the reserved one, or POINTER without a sensitivity (R116, R119). -/
theorem generatorReady_eq_false_iff {s : State} :
    generatorReady s = false ↔
      s.cfg.ctrl.extractLsb' 2 2 = 3#2 ∨ s.cfg.ctrl.extractLsb' 2 2 = 2#2 ∧ s.cfg.ptrSens = 0 := by
  rw [← ctrlGen_reserved_iff, ← ctrlGen_pointer_iff, generatorReady]
  cases ctrlGen s <;> simp

/-- `need` is the plain formula of R112. -/
theorem need_eq_bytesNeeded (s : State) : need s = bytesNeeded s := rfl

/-- The checks of R139, by name. -/
theorem configOk_iff {s : State} :
    configOk s = true ↔
      (ctrlMode s = .raw → rawLengthOk s.txLen.toNat = true) ∧
        (ctrlMode s ≠ .raw → generatorReady s = true) ∧ touchCount s ≤ Config.touchMax ∧
          need s ≤ Config.rxMax := by
  rw [configOk]
  cases ctrlMode s <;> simp [and_assoc]

/-- The checks fail exactly in the cases that `ConfigRefused` lists. -/
theorem configRefused_iff {s : State} : ConfigRefused s ↔ configOk s = false := by
  have hcount : touchCount s ≤ Config.touchMax ↔ ¬ 64 < (s.cfg.layout2.extractLsb' 8 8).toNat :=
    Nat.not_lt.symm
  have hneed : need s ≤ Config.rxMax ↔ ¬ 128 < bytesNeeded s := by
    rw [need_eq_bytesNeeded]
    exact Nat.not_lt.symm
  have hraw : rawLengthOk s.txLen.toNat = true ↔ ¬ (s.txLen.toNat < 5 ∨ 64 < s.txLen.toNat) := by
    rw [rawLengthOk_iff]; omega
  rw [← Bool.not_eq_true, configOk_iff, Ne, ctrlMode_raw_iff, hraw, ← Bool.not_eq_false,
    generatorReady_eq_false_iff, hcount, hneed]
  unfold ConfigRefused
  by_cases hm : s.cfg.ctrl.extractLsb' 0 2 = 3#2
  · simp only [hm, ne_eq, not_true_eq_false, false_and, true_and, false_or, forall_const,
      false_implies, not_and_or, not_not]
  · simp only [hm, ne_eq, not_false_eq_true, true_and, false_and, false_or, forall_const,
      false_implies, not_and_or, not_not, or_assoc]

theorem cycle1Refused_iff {s : State} :
    Cycle1Refused s ↔ (configOk s && receiveLengthOk s) = false := by
  rw [Bool.and_eq_false_iff, ← configRefused_iff, ← Bool.not_eq_true (receiveLengthOk s),
    receiveLengthOk_iff, ctrlMode_voltCl_iff, Cycle1Refused, Classical.not_imp, Nat.not_le]
  rfl

/-- Settles O10: in INITIALIZED the check of the configuration is the one that fails. -/
theorem badConfigurationRefused : Obligations.BadConfigurationRefused := by
  intro s hs
  have hstate : (s.status.state == .initialized) = true := beq_iff_eq.mpr hs
  refine ⟨fun hrefused => ?start, fun hrefused => ?cycle1⟩
  case start =>
    show execStart s = _
    rw [execStart, hstate, require_true, configRefused_iff.mp hrefused, require_false]
  case cycle1 =>
    show execCycle1 s = _
    rw [execCycle1, hstate, require_true, cycle1Refused_iff.mp hrefused, require_false]

/-! ### Stage SAMPLE -/

theorem AtStage.stage {g : Stage} {rest : List Turn} {s : State} (h : AtStage g rest s) :
    s.status.stage = g := by
  obtain ⟨-, -, -, -, hg⟩ := h
  exact hg

/-- The step that runs a loop stage. -/
theorem step_stage {g : Stage} {rest : List Turn} {s : State} (h : AtStage g rest s) :
    step s = stageStep (scheduled rest s) := by
  obtain ⟨hturn, hx, hp, hcycle, -⟩ := h
  have hactive : loopActive (scheduled rest s) = true := (loopActive_iff s).mpr hcycle
  rw [step_engine hturn]
  rcases engineTurn_cases (scheduled rest s) with ⟨hx', -⟩ | ⟨w, -, hp', ho, -⟩ | ⟨-, -, he⟩
  · exact absurd hx hx'
  · rcases hp with hp | hp
    · exact nomatch hp.symm.trans hp'
    · exact nomatch hp.symm.trans ho
  · rw [he, loopTurn, if_pos hactive]

/-- The low word of a difference of two readings is their difference mod 2^32 (R30). -/
theorem setWidth_sub_eq_ofInt (a b : Ticks) :
    (a - b).setWidth 32 = BitVec.ofInt 32 ((a.toNat : Int) - b.toNat) := by
  apply BitVec.eq_of_toNat_eq
  rw [BitVec.toNat_setWidth, BitVec.toNat_sub, BitVec.toNat_ofInt]
  omega

/-- Settles O33: the stage's words, with their wraps written as the remainders that R130 names. -/
theorem sampleStage : Obligations.SampleStage := by
  intro s rest h
  have hstage : (scheduled rest s).status.stage = .sample := h.stage
  rw [step_stage h, stageStep, hstage]
  dsimp only
  rw [← setWidth_sub_eq_ofInt, BitVec.ofNat_mul, BitVec.ofNat_toNat, BitVec.ofNat_toNat,
    BitVec.setWidth_eq, BitVec.setWidth_eq]
  rfl

end Sys2Proof.Machine
end

section
/-! PROOFS. The host's accesses (`20_memory.md` R55 to R61): which offsets the map lists, what a read
returns, and what a write of each class does. -/

namespace Sys2Proof.Machine

theorem step_host {a : HostAccess} {rest : List Turn} {s : State} (h : NextTurn (.host a) rest s) :
    step s = .next (hostTurn a (scheduled rest s)) :=
  (step_scheduled h.1).trans (takeTurn_released (s := scheduled rest s) h.2)

/-! ### The register map -/

theorem windowAt_isSome {k n : Nat} {r : Fin k → Reg} : (windowAt k r n).isSome = true ↔ n < k := by
  unfold windowAt
  split <;> simp_all

theorem isSome_ite {α : Type} {c : Prop} [Decidable c] {a b : Option α} :
    (if c then a else b).isSome = true ↔ c ∧ a.isSome = true ∨ ¬ c ∧ b.isSome = true := by
  split <;> simp_all

/-- The map has a register at a word exactly where R20 lists its offset. -/
theorem regAtWord_isSome_iff (w : Nat) : (regAtWord w).isSome = true ↔ Mapped (4 * w) := by
  by_cases hw : w < 0x20
  · have hlow : ∀ n : Fin 0x20, (regAtWord n.val).isSome = true ↔ Mapped (4 * n.val) := by decide
    exact hlow ⟨w, hw⟩
  · unfold regAtWord
    rw [if_neg hw]
    simp only [isSome_ite, windowAt_isSome, Option.isSome_none, Bool.false_eq_true, and_false, false_or]
    unfold Mapped
    omega

theorem regAt_isSome_iff (addr width : Nat) :
    (regAt addr width).isSome = true ↔ width = 32 ∧ addr % 4 = 0 ∧ Mapped addr := by
  unfold regAt
  split
  · next h =>
    rw [regAtWord_isSome_iff, show 4 * (addr / 4) = addr by omega]
    rw [and_iff_right h.1, and_iff_right h.2]
  · next h =>
    rw [← and_assoc]
    exact iff_of_false nofun fun hm => h hm.1

theorem regAt_eq_none {addr width : Nat} (h : width ≠ 32 ∨ addr % 4 ≠ 0 ∨ ¬ Mapped addr) :
    regAt addr width = none := by
  rw [← Option.not_isSome_iff_eq_none, regAt_isSome_iff, not_and_or, not_and_or]
  exact h

theorem hostTurn_read {addr width : Nat} {r : Reg} {s : State} (h : regAt addr width = some r) :
    hostTurn (.read addr width) s = answerHost (readReg s r) s := by
  simp only [hostTurn, h]

theorem hostTurn_write {addr width : Nat} {r : Reg} {v : Word} {s : State}
    (h : regAt addr width = some r) : hostTurn (.write addr width v) s = writeReg r v s := by
  simp only [hostTurn, h]

theorem hostTurn_badRead {addr width : Nat} {s : State} (h : regAt addr width = none) :
    hostTurn (.read addr width) s = answerHost 0 (busError s) := by
  simp only [hostTurn, h]

theorem hostTurn_badWrite {addr width : Nat} {v : Word} {s : State} (h : regAt addr width = none) :
    hostTurn (.write addr width v) s = busError s := by
  simp only [hostTurn, h]

/-- Settles O44: an access that reaches no register is a bus error. -/
theorem badAccessSetsBuserr : Obligations.BadAccessSetsBuserr := by
  intro s rest addr width v hbad
  have hnone := regAt_eq_none hbad
  refine ⟨fun hturn => ?read, fun hturn => ?write⟩
  case read => rw [step_host hturn, hostTurn_badRead hnone]; rfl
  case write => rw [step_host hturn, hostTurn_badWrite hnone]; rfl

/-! ### The words of STATUS, ERR and the buffers -/

theorem LoopState.bits_toNat (x : LoopState) : x.bits.toNat = stateNumber x := by cases x <;> rfl

theorem Stage.bits_toNat (g : Stage) : g.bits.toNat = stageNumber g := by cases g <;> rfl

theorem ErrCode.bits_toNat (c : ErrCode) : c.bits.toNat = errNumber c := by cases c <;> rfl

/-- A field of a word is known by its bits. -/
theorem extractLsb'_eq_of_bits {n k l : Nat} {w : BitVec n} {x : BitVec l}
    (h : ∀ i < l, w.getLsbD (k + i) = x.getLsbD i) : w.extractLsb' k l = x := by
  apply BitVec.eq_of_getLsbD_eq
  intro i hi
  rw [BitVec.getLsbD_extractLsb', h i hi, decide_eq_true hi, Bool.true_and]

theorem statusWord_extract (t : Status) :
    (statusWord t).extractLsb' 0 2 = t.state.bits ∧ (statusWord t).extractLsb' 5 3 = t.stage.bits ∧
      (statusWord t).extractLsb' 14 18 = 0#18 := by
  refine ⟨?_, ?_, ?_⟩
  all_goals
    refine extractLsb'_eq_of_bits fun i hi => ?_
    simp only [statusWord, BitVec.getLsbD_append]
    interval_cases i <;> simp

/-- `STATUS` reads with its fields at their places (R23). -/
theorem statusWord_fields (t : Status) : StatusFields t (statusWord t) := by
  obtain ⟨hstate, hstage, hreserved⟩ := statusWord_extract t
  constructor
  case state => rw [hstate, LoopState.bits_toNat]
  case stage => rw [hstage, Stage.bits_toNat]
  case reserved => exact hreserved
  all_goals
    simp only [statusWord, BitVec.getLsbD_append]
    simp

theorem errWord_extract (e : ErrReg) :
    (errWord e).extractLsb' 0 4 = e.cmdErr.bits ∧ (errWord e).extractLsb' 4 4 = 0#4 ∧
      (errWord e).extractLsb' 8 4 = e.fatalCode.bits ∧
      (errWord e).extractLsb' 12 3 = e.fatalStage.bits ∧ (errWord e).extractLsb' 15 17 = 0#17 := by
  refine ⟨?_, ?_, ?_, ?_, ?_⟩
  all_goals
    refine extractLsb'_eq_of_bits fun i hi => ?_
    simp only [errWord, BitVec.getLsbD_append]
    interval_cases i <;> simp

/-- `ERR` reads with its fields at their places (R26). -/
theorem errWord_fields (e : ErrReg) : ErrFields e (errWord e) := by
  obtain ⟨hcmd, hlow, hcode, hstage, hhigh⟩ := errWord_extract e
  exact { cmdErr := by rw [hcmd, ErrCode.bits_toNat]
          low := hlow
          fatalCode := by rw [hcode, ErrCode.bits_toNat]
          fatalStage := by rw [hstage, Stage.bits_toNat]
          high := hhigh }

/-- Byte `j` of a buffer word is byte `4w + j` of the buffer (R48, R61). -/
theorem bufWord_byte (m : Memory) (w : Nat) (j : Fin 4) :
    (bufWord m w).extractLsb' (8 * j.val) 8 = memRead m (4 * w + j.val) := by
  refine extractLsb'_eq_of_bits fun i hi => ?_
  simp only [bufWord, BitVec.getLsbD_append]
  fin_cases j <;> interval_cases i <;> simp

/-! ### Reads -/

theorem readReg_env (s : State) (e : Env) (r : Reg) : readReg { s with env := e } r = readReg s r := by
  cases r <;> rfl

/-- The windows of six registers, one for each channel (R20). -/
theorem regAt_channelWindows (ch : Channel) :
    regAt (0x080 + 4 * ch.val) 32 = some (.setpoint ch) ∧
      regAt (0x0A0 + 4 * ch.val) 32 = some (.tgt ch) ∧
      regAt (0x0C0 + 4 * ch.val) 32 = some (.cmdv ch) ∧
      regAt (0x0E0 + 4 * ch.val) 32 = some (.fbPos ch) ∧
      regAt (0x100 + 4 * ch.val) 32 = some (.fbVel ch) ∧
      regAt (0x120 + 4 * ch.val) 32 = some (.fbCur ch) ∧
      regAt (0x140 + 4 * ch.val) 32 = some (.rawPV ch) ∧
      regAt (0x160 + 4 * ch.val) 32 = some (.rawC ch) := by
  revert ch
  decide

theorem regAt_touch (i : Fin 64) : regAt (0x200 + 4 * i.val) 32 = some (.touch i) := by
  revert i; decide

theorem regAt_txWord (w : Fin 16) : regAt (0x400 + 4 * w.val) 32 = some (.txWord w) := by
  revert w; decide

theorem regAt_rxWord (w : Fin 32) : regAt (0x500 + 4 * w.val) 32 = some (.rxWord w) := by
  revert w; decide

/-- A host read delivers the register's value and changes nothing in the block (R58). -/
theorem step_read {addr : Nat} {r : Reg} {rest : List Turn} {s : State}
    (hturn : NextTurn (.host (.read addr 32)) rest s) (hr : regAt addr 32 = some r) :
    step s = .next (answerHost (readReg s r) (scheduled rest s)) := by
  rw [step_host hturn, hostTurn_read hr, show readReg (scheduled rest s) r = readReg s r from
    readReg_env s _ r]

theorem registerWords_readAs (s : State) : ∀ entry ∈ registerWords s, ReadsAs s entry.1 entry.2 := by
  simp only [registerWords, List.forall_mem_cons]
  exact ⟨⟨.id, rfl, rfl⟩, ⟨.ctrl, rfl, rfl⟩, ⟨.cmd, rfl, rfl⟩, ⟨.result, rfl, rfl⟩, ⟨.ie, rfl, rfl⟩,
    ⟨.ip, rfl, rfl⟩, ⟨.ckerrCnt, rfl, rfl⟩, ⟨.cycleCnt, rfl, rfl⟩, ⟨.seq, rfl, rfl⟩,
    ⟨.elapsed, rfl, rfl⟩, ⟨.phase, rfl, rfl⟩, ⟨.period, rfl, rfl⟩, ⟨.kGain, rfl, rfl⟩,
    ⟨.phaseRate, rfl, rfl⟩, ⟨.sinAmp, rfl, rfl⟩, ⟨.sinOff, rfl, rfl⟩, ⟨.ptrSens, rfl, rfl⟩,
    ⟨.ptrIn, rfl, rfl⟩, ⟨.cvtIn, rfl, rfl⟩, ⟨.cvtOut, rfl, rfl⟩, ⟨.txLen, rfl, rfl⟩,
    ⟨.rxLen, rfl, rfl⟩, ⟨.proto, rfl, rfl⟩, ⟨.layout, rfl, rfl⟩, ⟨.layout2, rfl, rfl⟩,
    List.forall_mem_nil _⟩

/-- Settles O45: a mapped offset has its register, whose word is read from its fields. -/
theorem readsChangeNothing : Obligations.ReadsChangeNothing := by
  refine ⟨fun addr haligned hmapped => ?reads, fun s => ⟨registerWords_readAs s,
    ⟨_, ⟨_, rfl, rfl⟩, statusWord_fields s.status⟩, ⟨_, ⟨_, rfl, rfl⟩, errWord_fields s.err⟩,
    fun ch => ?windows, fun i => ⟨_, regAt_touch i, rfl⟩,
    fun w => ⟨_, ⟨_, regAt_txWord w, rfl⟩, bufWord_byte s.txbuf w.val⟩,
    fun w => ⟨_, ⟨_, regAt_rxWord w, rfl⟩, bufWord_byte s.rxbuf w.val⟩⟩⟩
  case reads =>
    obtain ⟨r, hr⟩ := Option.isSome_iff_exists.mp
      ((regAt_isSome_iff addr 32).mpr ⟨rfl, haligned, hmapped⟩)
    exact ⟨r, hr, fun s rest hturn => ⟨step_read hturn hr, readReg_env s _ r⟩⟩
  case windows =>
    obtain ⟨hset, htgt, hcmdv, hpos, hvel, hcur, hpv, hc⟩ := regAt_channelWindows ch
    exact ⟨⟨_, hset, rfl⟩, ⟨_, htgt, rfl⟩, ⟨_, hcmdv, rfl⟩, ⟨_, hpos, rfl⟩, ⟨_, hvel, rfl⟩,
      ⟨_, hcur, rfl⟩, ⟨_, hpv, rfl⟩, ⟨_, hc, rfl⟩⟩

end Sys2Proof.Machine
end

section
/-! PROOFS. The host's writes (`20_memory.md` R57): the write gate, what an accepted write stores, and the
W1C registers (R23, R28). -/

namespace Sys2Proof.Machine

/-- A host write is the write of the register at its offset. -/
theorem step_write {addr : Nat} {v : Word} {r : Reg} {rest : List Turn} {s : State}
    (hturn : NextTurn (.host (.write addr 32 v)) rest s) (hr : regAt addr 32 = some r) :
    step s = .next (writeReg r v (scheduled rest s)) := by
  rw [step_host hturn, hostTurn_write hr]

/-! ### The access classes -/

theorem writeReg_readOnly {r : Reg} {v : Word} {s : State} (h : regAccess r = .readOnly) :
    writeReg r v s = s := by
  rw [writeReg, h]

theorem writeReg_live {r : Reg} {v : Word} {s : State} (h : regAccess r = .live) :
    writeReg r v s = storeReg r v s := by
  rw [writeReg, h]

theorem writeReg_open {r : Reg} {v : Word} {s : State} (h : regAccess r = .gated)
    (hg : gateOpen s = true) : writeReg r v s = storeReg r v s := by
  rw [writeReg, h]
  exact if_pos hg

theorem writeReg_closed {r : Reg} {v : Word} {s : State} (h : regAccess r = .gated)
    (hg : gateOpen s = false) :
    writeReg r v s = { s with status := { s.status with collide := true } } := by
  rw [writeReg, h]
  exact if_neg (by rw [hg]; decide)

theorem gateOpen_iff {s : State} :
    gateOpen s = true ↔ s.status.state ≠ .running ∧ s.status.busy = false := by
  rw [gateOpen, Bool.and_eq_true, bne_iff_ne, Bool.not_eq_true']

theorem gateOpen_eq_false_iff {s : State} :
    gateOpen s = false ↔ s.status.state = .running ∨ s.status.busy = true := by
  rw [← Bool.not_eq_true, gateOpen_iff, not_and_or, not_not, Bool.not_eq_false]

/-- The access class at an offset of the map. -/
def accessAt (addr : Nat) : Option Access := (regAt addr 32).map regAccess

theorem accessAt_eq_some {addr : Nat} {a : Access} (h : accessAt addr = some a) :
    ∃ r, regAt addr 32 = some r ∧ regAccess r = a :=
  Option.map_eq_some_iff.mp h

theorem accessAt_gatedRegisters : ∀ entry ∈ gatedRegisters, accessAt entry.1 = some .gated := by decide

theorem accessAt_readOnlyRegisters : ∀ addr ∈ readOnlyRegisters, accessAt addr = some .readOnly := by
  decide

theorem accessAt_readOnlyWindows : ∀ base ∈ [0x0A0, 0x0E0, 0x100, 0x120, 0x140, 0x160],
    ∀ ch : Channel, accessAt (base + 4 * ch.val) = some .readOnly := by decide

theorem accessAt_txWord {w : Nat} (hw : w < 16) : accessAt (0x400 + 4 * w) = some .gated := by
  rw [accessAt, regAt_txWord ⟨w, hw⟩]; rfl

theorem accessAt_rxWord {w : Nat} (hw : w < 32) : accessAt (0x500 + 4 * w) = some .gated := by
  rw [accessAt, regAt_rxWord ⟨w, hw⟩]; rfl

theorem accessAt_touch (i : Fin 64) : accessAt (0x200 + 4 * i.val) = some .readOnly := by
  rw [accessAt, regAt_touch i]; rfl

theorem accessAt_of_readOnlyAt {addr : Nat} (h : ReadOnlyAt addr) : accessAt addr = some .readOnly := by
  rcases h with h | ⟨base, hbase, ch, rfl⟩ | ⟨i, rfl⟩
  · exact accessAt_readOnlyRegisters addr h
  · exact accessAt_readOnlyWindows base hbase ch
  · exact accessAt_touch i

/-- Settles O46: by the class of the register at the offset. -/
theorem closedGateDropsWrite : Obligations.ClosedGateDropsWrite := by
  intro s rest addr v hturn
  refine ⟨fun haddr hclosed => ?gated, fun haddr => ?readOnly⟩
  case gated =>
    have haccess : accessAt addr = some .gated := by
      rcases haddr with ⟨m, hm⟩ | ⟨w, hw, rfl⟩ | ⟨w, hw, rfl⟩
      · exact accessAt_gatedRegisters _ hm
      · exact accessAt_txWord hw
      · exact accessAt_rxWord hw
    obtain ⟨r, hr, hgated⟩ := accessAt_eq_some haccess
    rw [step_write hturn hr, writeReg_closed (s := scheduled rest s) hgated
      (gateOpen_eq_false_iff.mpr hclosed)]
    rfl
  case readOnly =>
    obtain ⟨r, hr, hreadOnly⟩ := accessAt_eq_some (accessAt_of_readOnlyAt haddr)
    rw [step_write hturn hr, writeReg_readOnly hreadOnly]

/-! ### Plain registers -/

/-- The writable bits of a plain register: one that holds what is written to it, buffers apart. -/
def plainMask (r : Reg) : Option Word :=
  match r with
  | .ctrl => some 0x0000000F
  | .ie => some 0x0000001F
  | .txLen | .rxLen => some 0x000000FF
  | .proto => some 0x00FFFFFF
  | .layout2 => some 0x0007FFFF
  | .period | .kGain | .phaseRate | .sinAmp | .sinOff | .ptrSens | .ptrIn | .cvtIn | .layout
  | .setpoint _ | .cmdv _ => some 0xFFFFFFFF
  | _ => none

/-- What is left of a word in a register of `n` bits. -/
theorem setWidth_setWidth_eq_and {n : Nat} (v : Word) (mask : Word)
    (hmask : mask = (BitVec.allOnes n).setWidth 32) : (v.setWidth n).setWidth 32 = v &&& mask := by
  subst hmask
  ext i hi
  simp [BitVec.getElem_setWidth, BitVec.getLsbD_setWidth, hi, Bool.and_comm]

theorem readReg_storeReg_self {r : Reg} {mask : Word} (h : plainMask r = some mask) (v : Word)
    (s : State) : readReg (storeReg r v s) r = v &&& mask := by
  cases r
  case ctrl | ie | txLen | rxLen | proto | layout2 =>
    cases h
    exact setWidth_setWidth_eq_and v _ rfl
  case period | kGain | phaseRate | sinAmp | sinOff | ptrSens | ptrIn | cvtIn | layout =>
    cases h
    exact BitVec.and_allOnes.symm
  case setpoint ch =>
    cases h
    exact (Six.get_set_self s.cfg.setpoint ch v).trans BitVec.and_allOnes.symm
  case cmdv ch =>
    cases h
    exact (Six.get_set_self s.cmdv ch v).trans BitVec.and_allOnes.symm
  all_goals cases h

/-- A write of a plain register leaves every other register as it reads. -/
theorem readReg_storeReg_of_ne {r q : Reg} {mask : Word} (h : plainMask r = some mask) (hq : q ≠ r)
    (v : Word) (s : State) : readReg (storeReg r v s) q = readReg s q := by
  cases r
  case setpoint ch =>
    cases q
    case setpoint c =>
      exact (Six.get_set _ ch c v).trans (if_neg fun hc => hq (by rw [hc]))
    all_goals rfl
  case cmdv ch =>
    cases q
    case cmdv c =>
      exact (Six.get_set _ ch c v).trans (if_neg fun hc => hq (by rw [hc]))
    all_goals rfl
  case ctrl | ie | txLen | rxLen | proto | layout2 | period | kGain | phaseRate | sinAmp | sinOff |
    ptrSens | ptrIn | cvtIn | layout =>
    cases q <;> trivial
  all_goals cases h

/-- A write of a plain register changes the host's registers, the lengths and the vector alone. -/
theorem storeReg_frame {r : Reg} {mask : Word} (h : plainMask r = some mask) (v : Word) (s : State) :
    storeReg r v s = { s with
      cfg := (storeReg r v s).cfg, txLen := (storeReg r v s).txLen, rxLen := (storeReg r v s).rxLen
      cmdv := (storeReg r v s).cmdv } := by
  cases r
  case ctrl | ie | txLen | rxLen | proto | layout2 | period | kGain | phaseRate | sinAmp | sinOff |
    ptrSens | ptrIn | cvtIn | layout | setpoint | cmdv => rfl
  all_goals cases h

theorem plainMask_gatedRegisters :
    ∀ entry ∈ gatedRegisters, (regAt entry.1 32).bind plainMask = some entry.2 := by decide

theorem plainMask_liveRegisters :
    ∀ entry ∈ liveRegisters, (regAt entry.1 32).bind plainMask = some entry.2 := by decide

theorem accessAt_liveRegisters : ∀ entry ∈ liveRegisters, accessAt entry.1 = some .live := by decide

/-- A write that passes the gate stores in a plain register with the listed bits. -/
theorem plain_write_accepted {s : State} {addr : Nat} {mask : Word}
    (h : (addr, mask) ∈ gatedRegisters ∧ s.status.state ≠ .running ∧ s.status.busy = false ∨
      (addr, mask) ∈ liveRegisters) :
    ∃ r, regAt addr 32 = some r ∧ plainMask r = some mask ∧ ∀ v, writeReg r v s = storeReg r v s := by
  rcases h with ⟨hmem, hgate⟩ | hmem
  · obtain ⟨r, hr, hmask⟩ := Option.bind_eq_some_iff.mp (plainMask_gatedRegisters _ hmem)
    obtain ⟨r', hr', haccess⟩ := accessAt_eq_some (accessAt_gatedRegisters _ hmem)
    obtain rfl := Option.some.inj (hr.symm.trans hr')
    exact ⟨r, hr, hmask, fun v => writeReg_open haccess (gateOpen_iff.mpr hgate)⟩
  · obtain ⟨r, hr, hmask⟩ := Option.bind_eq_some_iff.mp (plainMask_liveRegisters _ hmem)
    obtain ⟨r', hr', haccess⟩ := accessAt_eq_some (accessAt_liveRegisters _ hmem)
    obtain rfl := Option.some.inj (hr.symm.trans hr')
    exact ⟨r, hr, hmask, fun v => writeReg_live haccess⟩

/-- Settles O47: an accepted write is a store, which reads back under the mask and has a frame. -/
theorem acceptedWriteReadsBack : Obligations.AcceptedWriteReadsBack := by
  intro s rest addr mask v haccepted hturn
  obtain ⟨r, hr, hmask, hstore⟩ := plain_write_accepted (s := scheduled rest s) haccepted
  refine ⟨storeReg r v (scheduled rest s), r, ?_, hr, readReg_storeReg_self hmask v _, fun q hq => ?_,
    storeReg_frame hmask v _⟩
  · rw [step_write hturn hr, hstore]
  · exact (readReg_storeReg_of_ne hmask hq v _).trans (readReg_env s _ q)

/-! ### Buffer words -/

/-- A word write sets its four bytes, low byte first, and no other byte (R48, R61). -/
theorem memRead_bufWriteWord {size w : Nat} {m : Memory} (h : m.wf size = true)
    (hw : 4 * w + 4 ≤ size) (v : Word) (k : Nat) :
    memRead (bufWriteWord m w v) k =
      if 4 * w ≤ k ∧ k < 4 * w + 4 then v.extractLsb' (8 * (k - 4 * w)) 8 else memRead m k := by
  rw [bufWriteWord, memRead_memWriteBytes h hw]
  simp only [List.length_cons, List.length_nil, Nat.zero_add]
  split
  · next hk =>
    obtain ⟨j, rfl⟩ : ∃ j, k = 4 * w + j := ⟨k - 4 * w, by omega⟩
    have hj : j < 4 := by omega
    rw [Nat.add_sub_cancel_left]
    interval_cases j <;> rfl
  · rfl

theorem append_bytes (v : Word) :
    v.extractLsb' 24 8 ++ v.extractLsb' 16 8 ++ v.extractLsb' 8 8 ++ v.extractLsb' 0 8 = v := by
  apply BitVec.eq_of_getLsbD_eq
  intro i hi
  simp only [BitVec.getLsbD_append, BitVec.getLsbD_extractLsb']
  interval_cases i <;> simp

/-- A buffer word reads back as it was written. -/
theorem bufWord_bufWriteWord {size w : Nat} {m : Memory} (h : m.wf size = true)
    (hw : 4 * w + 4 ≤ size) (v : Word) : bufWord (bufWriteWord m w v) w = v := by
  have hbyte (j : Nat) (hj : j < 4) :
      memRead (bufWriteWord m w v) (4 * w + j) = v.extractLsb' (8 * j) 8 := by
    rw [memRead_bufWriteWord h hw, if_pos (by omega), Nat.add_sub_cancel_left]
  rw [bufWord, hbyte 3 (by decide), hbyte 2 (by decide), hbyte 1 (by decide),
    show memRead (bufWriteWord m w v) (4 * w) = _ from hbyte 0 (by decide)]
  exact append_bytes v

/-- The two views of a word written: its own four bytes, and the bytes it leaves alone. -/
theorem bufWriteWord_written {size w : Nat} {m : Memory} (h : m.wf size = true)
    (hw : 4 * w + 4 ≤ size) (v : Word) :
    (∀ j : Fin 4, memRead (bufWriteWord m w v) (4 * w + j.val) = v.extractLsb' (8 * j.val) 8) ∧
      ∀ k, k < 4 * w ∨ 4 * w + 3 < k → memRead (bufWriteWord m w v) k = memRead m k := by
  refine ⟨fun j => ?_, fun k hk => ?_⟩
  · rw [memRead_bufWriteWord h hw, if_pos (by omega), Nat.add_sub_cancel_left]
  · rw [memRead_bufWriteWord h hw, if_neg (by omega)]

/-- Settles O48: the write passes the gate, and the stored word is its four bytes. -/
theorem bufferWordsAreBytes : Obligations.BufferWordsAreBytes := by
  intro s rest v hs hb
  have hgate : gateOpen (scheduled rest s) = true := gateOpen_iff.mpr ⟨hs, hb⟩
  refine ⟨fun w hwf hturn => ?tx, fun w hwf hturn => ?rx⟩
  case tx =>
    refine ⟨bufWriteWord s.txbuf w.val v, ?_, bufWriteWord_written hwf (txWord_fits w) v,
      bufWord_bufWriteWord hwf (txWord_fits w) v⟩
    rw [step_write hturn (regAt_txWord w), writeReg_open rfl hgate]
    rfl
  case rx =>
    refine ⟨bufWriteWord s.rxbuf w.val v, ?_, bufWriteWord_written hwf (rxWord_fits w) v,
      bufWord_bufWriteWord hwf (rxWord_fits w) v⟩
    rw [step_write hturn (regAt_rxWord w), writeReg_open rfl hgate]
    rfl

/-! ### W1C registers -/

/-- A write of STATUS clears the W1C bits, 8 to 12, that are 1 in the written word (R23). -/
theorem statusWord_clearStatus (v : Word) (t : Status) :
    statusWord (clearStatus v t) = statusWord t &&& ~~~(v &&& 0x00001F00) := by
  apply BitVec.eq_of_getLsbD_eq
  intro i hi
  simp only [BitVec.getLsbD_and, BitVec.getLsbD_not, statusWord, BitVec.getLsbD_append, clearStatus]
  interval_cases i <;> simp

theorem setWidth_and_not (x : BitVec 5) (v : Word) :
    (x &&& ~~~(v.setWidth 5)).setWidth 32 = x.setWidth 32 &&& ~~~v := by
  apply BitVec.eq_of_getLsbD_eq
  intro i hi
  simp only [BitVec.getLsbD_setWidth, BitVec.getLsbD_and, BitVec.getLsbD_not, hi]
  by_cases hx : i < 5
  · simp [hx]
  · simp [BitVec.getLsbD_of_ge x i (by omega)]

/-- Settles O49: the write stores, and each register's word is masked bit by bit. -/
theorem writeOneClears : Obligations.WriteOneClears := by
  intro s rest v
  refine ⟨fun hturn => ⟨_, step_write hturn rfl, rfl, ?status⟩,
    fun hturn => ⟨_, step_write hturn rfl, rfl, ?ip⟩⟩
  case status => exact statusWord_clearStatus v s.status
  case ip => exact setWidth_and_not s.ip v

end Sys2Proof.Machine
end

section
/-! PROOFS. What a cycle in progress holds still (`20_memory.md` R57): the gated configuration registers,
and `TX_LEN` but for the motion frame that stage ENCODE builds (R103, R133). -/

namespace Sys2Proof.Machine

/-- What a step from `s` to `t` within a cycle can do to the host's registers and to `TX_LEN`. -/
structure HeldInCycle (s t : State) : Prop where
  /-- of the host's registers only those writable at any time may differ -/
  cfg : t.cfg = { s.cfg with
    cmd := t.cfg.cmd, ie := t.cfg.ie, ptrIn := t.cfg.ptrIn, setpoint := t.cfg.setpoint }
  /-- `TX_LEN` is written by the ENCODE of a motion frame only -/
  txLen : t.txLen = s.txLen ∨ ctrlMode s ≠ .raw ∧ s.status.stage = .encode ∧ t.txLen = 17

theorem HeldInCycle.kept {s t : State} (hcfg : t.cfg = s.cfg := by rfl)
    (hlen : t.txLen = s.txLen := by rfl) : HeldInCycle s t where
  cfg := by rw [hcfg]
  txLen := .inl hlen

/-- What follows the work of a step and leaves the host's registers and `TX_LEN` alone. -/
theorem HeldInCycle.andThen {s u t : State} (h : HeldInCycle s u) (hcfg : t.cfg = u.cfg := by rfl)
    (hlen : t.txLen = u.txLen := by rfl) : HeldInCycle s t := by
  obtain ⟨cfg, txLen⟩ := h
  rw [← hcfg] at cfg
  rw [← hlen] at txLen
  exact ⟨cfg, txLen⟩

/-! ### The stages -/

theorem stageBoundary_held (s : State) : HeldInCycle s (stageBoundary s) := by
  unfold stageBoundary
  split <;> exact .kept

theorem stageGenerate_held (s : State) : AllNext (HeldInCycle s) (stageGenerate s) :=
  .ite (fun _ => .next .kept) fun _ =>
    .ite (fun _ => .next (.kept (gen_work s).cfg (gen_sameCycle s).txLen)) fun _ => .fault _

theorem stageControl_held (s : State) : HeldInCycle s (stageControl s) := by
  unfold stageControl
  refine HeldInCycle.andThen ?_
  split
  · exact .kept
  · exact .kept
  · split
    · exact .kept (ctlaw_work s).cfg (ctlaw_sameCycle s).txLen
    · exact .kept
  · exact .kept

/-- A motion frame has 17 bytes (R103). -/
theorem buildMotion_held {s : State} (hm : ctrlMode s ≠ .raw) (hg : s.status.stage = .encode)
    (mode : Byte) (conv : Int → Int) (range : Int → Bool) :
    HeldInCycle s (buildMotion mode conv range s) where
  cfg := by rw [(buildMotion_work mode conv range s).cfg]
  txLen := .inr ⟨hm, hg, rangeEvent_txLen _ _⟩

/-- A host-built frame keeps the length that the host gave it (R108). -/
theorem stageEncode_held {s : State} (hg : s.status.stage = .encode) :
    AllNext (HeldInCycle s) (stageEncode s) := by
  unfold stageEncode
  cases hm : ctrlMode s with
  | pos | voltOl | voltCl =>
    exact .next (buildMotion_held (by rw [hm]; nofun) hg _ _ _).andThen
  | raw => exact .ite (fun _ => .next .kept) fun _ => .fault _

theorem HeldInCycle.afterDecode {s u : State} (h : HeldInCycle s u) :
    HeldInCycle s (afterDecode u) := by
  unfold Machine.afterDecode
  split
  · exact h.andThen
  · exact h.andThen (lateCheck_cfg _) (lateCheck_txLen _)

theorem stageDecode_held (s : State) : HeldInCycle s (stageDecode s) := by
  unfold stageDecode
  dsimp only
  split
  · exact .afterDecode .kept
  · split
    · exact .kept (fatal_cfg _ _ _) (fatal_txLen _ _ _)
    · exact .afterDecode .kept

theorem stagePace_held (s : State) : HeldInCycle s (stagePace s) := by
  unfold stagePace
  split <;> exact .kept

theorem stageStep_held (s : State) : AllNext (HeldInCycle s) (stageStep s) := by
  unfold stageStep
  cases hg : s.status.stage with
  | boundary => exact .next (stageBoundary_held s)
  | sample => exact .next .kept
  | generate => exact stageGenerate_held s
  | control => exact .next (stageControl_held s)
  | encode => exact stageEncode_held hg
  | exchange => exact .ite (fun _ => .next .kept) fun _ => .fault _
  | decode => exact .next (stageDecode_held s)
  | pace => exact .next (stagePace_held s)

/-! ### The turns -/

theorem running_of_cycleActive {s : State} (hcycle : cycleActive s) (ho : s.oneShot = false) :
    s.status.state = .running :=
  hcycle.resolve_right (by rw [ho]; decide)

/-- In RUNNING a command is refused, is a NOP, or is the STOP that leaves its request (R77). -/
theorem Executed.heldInCycle {s t : State} {i : Instr} (h : Executed s i t)
    (hs : s.status.state = .running) : HeldInCycle s t := by
  cases h with
  | ends | init | start | stopLoop | stopLink | resetLink | cycle1 => exact .kept
  | data _ _ hn => exact absurd hs hn
  | reset hn => exact hn.elim (nomatch hs.symm.trans ·) (nomatch hs.symm.trans ·)

theorem engineTurn_held {s : State} (hcycle : cycleActive s) :
    AllNext (HeldInCycle s) (engineTurn s) := by
  rcases engineTurn_cases s with ⟨-, he⟩ | ⟨w, -, -, ho, he⟩ | ⟨-, -, he⟩ <;> rw [he]
  · exact .next .kept
  · have hs := running_of_cycleActive hcycle ho
    cases hi : decodeWord w with
    | ok i =>
      rw [commandStep_ok hi]
      exact fun t ht => (exec_executes i s t ht).heldInCycle hs
    | error e => rw [commandStep_error hi]; exact .next .kept
  · exact .ite (fun _ => stageStep_held s) fun _ => .next .kept

/-- The one answer that clears `TX_LEN` is the CLOSE of a RESET, which no cycle waits for (R129, R143). -/
theorem transportTurn_held {s : State} (h : Inv s) (hcycle : cycleActive s) (a : Answer) :
    HeldInCycle s (transportTurn a s) := by
  have hfatal (c : ErrCode) (g : Stage) : HeldInCycle s (fatal c g s) :=
    .kept (fatal_cfg c g s) (fatal_txLen c g s)
  rcases transportTurn_cases a s with ⟨-, e⟩ | ⟨-, e | e | e⟩ | ⟨-, ⟨rx, -, e⟩ | e⟩ |
    ⟨hx, ⟨hidle, e⟩ | ⟨-, e | e⟩⟩ <;> rw [e]
  · exact .kept
  · exact .kept
  · exact hfatal _ _
  · exact hfatal _ _
  · exact .kept
  · exact hfatal _ _
  · obtain ⟨ho, hclose⟩ := h.closing hx
    have hs := running_of_cycleActive hcycle ho
    rcases hclose with ⟨hs', -⟩ | ⟨hs', -⟩ | ⟨-, -, -, hstop⟩
    · exact nomatch hs.symm.trans hs'
    · exact nomatch hs.symm.trans hs'
    · exact nomatch hidle.symm.trans hstop
  · unfold closeDone
    dsimp only
    split <;> exact .kept
  · exact hfatal _ _

/-- A register writable at any time is none of the configuration's gated ones. -/
theorem storeLive_held {r : Reg} (hr : regAccess r = .live) (v : Word) (s : State) :
    HeldInCycle s (storeReg r v s) := by
  cases r
  case cmd =>
    show HeldInCycle s (issue v s)
    unfold issue
    split
    · exact .kept
    · exact ⟨rfl, .inl rfl⟩
  case status | ip => exact .kept
  case ie | ptrIn | setpoint => exact ⟨rfl, .inl rfl⟩
  all_goals cases hr

/-- The write gate is closed throughout a cycle: an open one would find the block at rest (R57). -/
theorem writeReg_held {s : State} (h : Inv s) (hcycle : cycleActive s) (r : Reg) (v : Word) :
    HeldInCycle s (writeReg r v s) := by
  cases hr : regAccess r with
  | readOnly => rw [writeReg_readOnly hr]; exact .kept
  | live => rw [writeReg_live hr]; exact storeLive_held hr v s
  | gated =>
    have hclosed : gateOpen s = false :=
      Bool.eq_false_iff.mpr fun hg => (h.atRest_of_gateOpen hg).cycle hcycle
    rw [writeReg_closed hr hclosed]
    exact .kept

theorem hostTurn_held {s : State} (h : Inv s) (hcycle : cycleActive s) (a : HostAccess) :
    HeldInCycle s (hostTurn a s) := by
  unfold hostTurn
  cases a with
  | read addr width => dsimp only; split <;> exact .kept
  | write addr width v =>
    dsimp only
    split
    · exact writeReg_held h hcycle _ v
    · exact .kept

/-- A turn of the reset input resets the block or does nothing (R160, entry 14). -/
theorem resetPinTurn_cases (b : Bool) (s : State) :
    resetPinTurn b s = s ∨ resetPinTurn b s = State.resetIn (resetPinTurn b s).env := by
  unfold resetPinTurn
  split
  · exact .inr rfl
  · exact .inl rfl

/-- A turn within a cycle holds the configuration, or is one of the reset input. -/
theorem takeTurn_held {u : Turn} {s t : State} (h : Inv s) (hcycle : cycleActive s)
    (ht : takeTurn u s = .next t) :
    HeldInCycle s t ∨ ∃ b, u = .resetPin b ∧ t = State.resetIn t.env := by
  have hpin (b : Bool) : HeldInCycle s (resetPinTurn b s) ∨
      resetPinTurn b s = State.resetIn (resetPinTurn b s).env :=
    (resetPinTurn_cases b s).imp_left fun e => by rw [e]; exact .kept
  cases hp : s.env.resetPin with
  | true =>
    rw [takeTurn_asserted hp] at ht
    cases ht
    cases u with
    | engine | transport | clock => exact .inl .kept
    | host a => cases a <;> exact .inl .kept
    | resetPin b => exact (hpin b).imp_right fun hr => ⟨b, rfl, hr⟩
  | false =>
    rw [takeTurn_released hp] at ht
    cases u with
    | engine => exact .inl (engineTurn_held hcycle t ht)
    | host a => cases ht; exact .inl (hostTurn_held h hcycle a)
    | transport a => cases ht; exact .inl (transportTurn_held h hcycle a)
    | clock x => cases ht; exact .inl .kept
    | resetPin b => cases ht; exact (hpin b).imp_right fun hr => ⟨b, rfl, hr⟩

/-- Settles O58: no stage, answer or command that can occur within a cycle writes a gated configuration
register, and the gate keeps the host from them; of the turns only the reset input's is left. -/
theorem configurationHeldInCycle : Obligations.ConfigurationHeldInCycle := by
  intro s t hinv hcycle hstep
  obtain ⟨u, e, hturn, hnow, hpin⟩ := step_turn hstep
  rcases takeTurn_held (hinv.withEnv e hnow) hcycle hturn with ⟨hcfg, hlen⟩ | ⟨b, hb, ht⟩
  · refine .inr ⟨hcfg, fun hraw => ?_, fun _ => hlen.imp_right And.right⟩
    exact hlen.resolve_right fun hmotion => hmotion.1 (ctrlMode_raw_iff.mpr hraw)
  · exact .inl ⟨⟨b, hpin b hb⟩, ht⟩

end Sys2Proof.Machine
end

section
/-! PROOFS. The frame decoder (`43_decoder.md`): the table of R109 in plain arithmetic, the bytes that a
decode reads, and what DECODE publishes (R113, R115). -/

namespace Sys2Proof.Machine

/-! ### Twelve-bit values -/

/-- Two fragments that share no bit: their OR is their sum (R109). -/
theorem toNat_or_shiftLeft {lo hi : BitVec 12} {n : Nat} (hlo : lo.toNat < 2 ^ n)
    (hhi : 2 ^ n * hi.toNat < 2 ^ 12) : (lo ||| hi <<< n).toNat = lo.toNat + 2 ^ n * hi.toNat := by
  rw [BitVec.toNat_or, BitVec.toNat_shiftLeft, Nat.shiftLeft_eq, Nat.mul_comm, Nat.mod_eq_of_lt hhi,
    Nat.or_comm, ← Nat.two_pow_add_eq_or_of_lt hlo, Nat.add_comm]

theorem toNat_widened (x : Byte) : (x.setWidth 12).toNat = x.toNat :=
  BitVec.toNat_setWidth_of_le (by decide)

theorem toNat_lowNibble (x : Byte) : (x.setWidth 12 &&& 0x00F).toNat = x.toNat % 16 := by
  rw [BitVec.toNat_and, toNat_widened]
  exact Nat.and_two_pow_sub_one_eq_mod x.toNat 4

theorem toNat_highNibble (x : Byte) : (x.setWidth 12 >>> 4).toNat = x.toNat / 16 := by
  rw [BitVec.toNat_ushiftRight, toNat_widened, Nat.shiftRight_eq_div_pow]

/-- A whole byte below the low nibble of another. -/
theorem toNat_byte_or_nibble (x y : Byte) :
    (x.setWidth 12 ||| (y.setWidth 12 &&& 0x00F) <<< 8).toNat = x.toNat + 256 * (y.toNat % 16) := by
  rw [toNat_or_shiftLeft (by rw [toNat_widened]; omega) (by rw [toNat_lowNibble]; omega), toNat_widened,
    toNat_lowNibble]
  rfl

/-- The high nibble of one byte below the whole of another. -/
theorem toNat_nibble_or_byte (x y : Byte) :
    (x.setWidth 12 >>> 4 ||| y.setWidth 12 <<< 4).toNat = x.toNat / 16 + 16 * y.toNat := by
  rw [toNat_or_shiftLeft (by rw [toNat_highNibble]; omega) (by rw [toNat_widened]; omega), toNat_widened,
    toNat_highNibble]
  rfl

/-- `unpack12` reads the value that the table of R109 gives. -/
theorem unpack12_toNat (msb : Bool) (B : Nat → Byte) (base i : Nat) :
    (unpack12 msb B base i).toNat = touchValue msb B base i := by
  unfold unpack12 touchValue
  dsimp only
  rw [beq_eq_decide]
  cases msb <;> cases decide (i % 2 = 0) <;> dsimp only
  case false.true => exact toNat_byte_or_nibble _ _
  case false.false => exact toNat_nibble_or_byte _ _
  case true.true => rw [BitVec.or_comm, toNat_nibble_or_byte, Nat.add_comm]
  case true.false => rw [BitVec.or_comm, toNat_byte_or_nibble, Nat.add_comm]

/-- A touch value depends on the two bytes it spans. -/
theorem touchValue_congr {msb : Bool} {B C : Nat → Byte} {base i : Nat}
    (h : ∀ k < base + 3 * i / 2 + 2, B k = C k) : touchValue msb B base i = touchValue msb C base i := by
  unfold touchValue
  rw [h _ (by omega), h _ (by omega)]

/-! ### The bytes that a decode reads -/

/-- `need` covers the last byte of each of a channel's three fields (R112, R113). -/
theorem channelFields_lt_need (s : State) (ch : Channel) :
    posOff s + 4 * ch.val + 1 < need s ∧ velOff s + 4 * ch.val + 1 < need s ∧
      curOff s + curStride s * ch.val < need s := by
  have hstride : curStride s * ch.val ≤ curStride s * 5 := Nat.mul_le_mul_left _ (by omega)
  rw [need]
  omega

/-- `need` covers both bytes that a touch value spans (R110, R112). -/
theorem touchBytes_le_need {s : State} {i : Nat} (hi : i < touchCount s) :
    touchOff s + 3 * i / 2 + 2 ≤ need s := by
  rw [need, touchLen]
  split <;> omega

/-- Within `RXBUF` a field is read as it stands there. -/
theorem le16_congr {B C : Nat → Byte} {k : Nat} (hlow : B k = C k) (hhigh : B (k + 1) = C (k + 1)) :
    le16 B k = le16 C k := by
  rw [le16, le16, hlow, hhigh]

section
variable {s : State} (hneed : need s ≤ Config.rxMax)
include hneed

theorem rxByte_of_lt_need {k : Nat} (hk : k < need s) : rxByte s k = memRead s.rxbuf k :=
  rxByte_of_lt (hk.trans_le hneed)

theorem rawPosition_eq (ch : Channel) :
    rawPosition s ch = le16 (memRead s.rxbuf) (posOff s + 4 * ch.val) := by
  obtain ⟨hpos, -, -⟩ := channelFields_lt_need s ch
  exact le16_congr (rxByte_of_lt_need hneed (by omega)) (rxByte_of_lt_need hneed hpos)

theorem rawVelocity_eq (ch : Channel) :
    rawVelocity s ch = le16 (memRead s.rxbuf) (velOff s + 4 * ch.val) := by
  obtain ⟨-, hvel, -⟩ := channelFields_lt_need s ch
  exact le16_congr (rxByte_of_lt_need hneed (by omega)) (rxByte_of_lt_need hneed hvel)

theorem rawCurrent_eq (ch : Channel) :
    rawCurrent s ch = memRead s.rxbuf (curOff s + curStride s * ch.val) := by
  obtain ⟨-, -, hcur⟩ := channelFields_lt_need s ch
  exact rxByte_of_lt_need hneed hcur

/-- Entry `i` of the decoded touch array: the value of R109 below the count, else 0 (R113). -/
theorem decodedTouch_toNat (i : Fin 64) :
    ((decodedFeedback s).touch.get i).toNat =
      if i.val < touchCount s then
        touchValue (touchOrder s) (memRead s.rxbuf) (touchOff s) i.val
      else 0 := by
  have hentry : (decodedFeedback s).touch.get i =
      if i.val < touchCount s then unpack12 (touchOrder s) (rxByte s) (touchOff s) i.val else 0 :=
    Vector.getElem_ofFn _
  rw [hentry]
  split
  · next hi =>
    rw [unpack12_toNat]
    exact touchValue_congr fun k hk =>
      rxByte_of_lt_need hneed (hk.trans_le (touchBytes_le_need hi))
  · rfl

end

/-! ### The command DECODE -/

/-- The sign of a channel as a factor (R113, R114). -/
theorem decodeSign_eq_mul (s : State) (ch : Channel) (v : Int) :
    decodeSign s ch v = (if ch = 5 ∧ decNeg5 s = true then -1 else 1) * v := by
  unfold decodeSign
  split
  · rw [neg_one_mul]
  · rw [one_mul]

theorem v2e_channel (raw : Int) (ch : Channel) :
    v2e raw ch.val =
      if ch = 5 then rhaz (raw * 65536 * 5) 3249 else rhaz (raw * 65536) 2596 := by
  have h5 : ch.val = 5 ↔ ch = 5 := (Fin.ext_iff (b := (5 : Channel))).symm
  simp only [v2e, h5]

/-- Past its checks DECODE publishes the snapshot and reports whether the frame is valid (R115). -/
theorem exec_decode {s : State} (hs : s.status.state ≠ .running) (hlen : s.rxLen.toNat ≤ Config.rxMax)
    (hcount : touchCount s ≤ Config.touchMax) (hneed : need s ≤ s.rxLen.toNat) :
    exec .decode s = .next (complete .none { setValid (receiveValid s) (decodeFrame s) with
      result := if receiveValid s then 1 else 0 }) := by
  show execDecode s = _
  rw [execDecode, allowsData_of_not_running hs, decide_eq_true hlen, decide_eq_true hcount,
    decide_eq_true hneed]
  rfl

theorem receiveValid_iff {s : State} (hlen : s.rxLen.toNat ≤ Config.rxMax) :
    receiveValid s = true ↔ Validates (memRead s.rxbuf) s.rxLen.toNat := by
  rw [receiveValid, frameValid_iff]
  exact validates_congr fun k hk => rxByte_of_lt (hk.trans_le hlen)

/-- Settles O21: past the checks every byte that the decode reads lies in `RXBUF`, and each register is the
conversion of its field. -/
theorem decodePublishesFeedback : Obligations.DecodePublishesFeedback := by
  intro s hs hlen hcount hbytes rx field le16At rp rv rc sign
  have hneed : need s ≤ Config.rxMax := Nat.le_trans hbytes hlen
  have hrp (ch : Channel) : rawPosition s ch = rp ch := rawPosition_eq hneed ch
  have hrv (ch : Channel) : rawVelocity s ch = rv ch := rawVelocity_eq hneed ch
  have hrc (ch : Channel) : rawCurrent s ch = rc ch := rawCurrent_eq hneed ch
  refine ⟨receiveValid s, decodedFeedback s, receiveValid_iff hlen, fun ch => ?pos, fun ch => ?vel,
    fun ch => ?cur, fun ch => ?rawPV, fun ch => ?rawC, decodedTouch_toNat hneed,
    exec_decode hs hlen hcount hbytes⟩
  case pos => rw [decodedFeedback, Six.get_ofFn, hrp, decodeSign_eq_mul]; rfl
  case vel => rw [decodedFeedback, Six.get_ofFn, hrv, decodeSign_eq_mul, v2e_channel]; rfl
  case cur => rw [decodedFeedback, Six.get_ofFn, hrc]; rfl
  case rawPV => rw [decodedFeedback, Six.get_ofFn, hrv, hrp]
  case rawC => rw [decodedFeedback, Six.get_ofFn, hrc]

end Sys2Proof.Machine
end

section
/-! PROOFS. Command words (`30_encoding.md` R69 to R78): the formats, that decoding and encoding agree, and
what the Engine does with a word that decodes and with one that does not. -/

namespace Sys2Proof.Machine

/-! ### The formats as fields of a word -/

theorem formatB_of_fields {w : Word} {j : Buf → Nat → Instr}
    (h : w.extractLsb' 24 8 = 0#8 ∧ w.extractLsb' 9 7 = 0#7) :
    formatB w j = .ok (j (bufField w) (lenField w)) :=
  if_pos h

theorem formatC_of_fields {w : Word} {j : Nat → Instr} (h : w.extractLsb' 11 21 = 0#21) :
    formatC w j = .ok (j (chField w)) :=
  if_pos h

theorem formatB_ok_fields {w : Word} {i : Instr} {j : Buf → Nat → Instr} (h : formatB w j = .ok i) :
    (w.extractLsb' 24 8 = 0#8 ∧ w.extractLsb' 9 7 = 0#7) ∧ i = j (bufField w) (lenField w) := by
  unfold formatB at h
  split at h
  · next hz => cases h; exact ⟨hz, rfl⟩
  · cases h

theorem formatC_ok_fields {w : Word} {i : Instr} {j : Nat → Instr} (h : formatC w j = .ok i) :
    w.extractLsb' 11 21 = 0#21 ∧ i = j (chField w) := by
  unfold formatC at h
  split at h
  · next hz => cases h; exact ⟨hz, rfl⟩
  · cases h

theorem lenField_lt (w : Word) : lenField w < 256 := (w.extractLsb' 16 8).isLt

theorem chField_lt (w : Word) : chField w < 8 := (w.extractLsb' 8 3).isLt

/-- The bit `BUF` of a word is the bit of the buffer that it names (R71). -/
theorem bufField_eq_iff {w : Word} {b : Buf} :
    bufField w = b ↔ (w.extractLsb' 8 1).toNat = b.bit.toNat := by
  unfold bufField
  generalize w.extractLsb' 8 1 = x
  cases b <;> revert x <;> decide

/-! ### Words assembled from fields -/

/-- Two words of any width that share no bit, the one below bit `n`: their OR is their sum. -/
theorem toNat_or_shiftLeft_of_lt {v n : Nat} {lo hi : BitVec v} (hlo : lo.toNat < 2 ^ n)
    (hhi : 2 ^ n * hi.toNat < 2 ^ v) : (lo ||| hi <<< n).toNat = lo.toNat + 2 ^ n * hi.toNat := by
  rw [BitVec.toNat_or, BitVec.toNat_shiftLeft, Nat.shiftLeft_eq, Nat.mul_comm, Nat.mod_eq_of_lt hhi,
    Nat.or_comm, ← Nat.two_pow_add_eq_or_of_lt hlo, Nat.add_comm]

theorem bufBit_toNat_lt (b : Buf) : b.bit.toNat < 2 := by
  cases b <;> decide

theorem wordB_toNat {opc : Word} {b : Buf} {len : Nat} (hopc : opc.toNat < 256) (hlen : len < 256) :
    (wordB opc b len).toNat = opc.toNat + 256 * b.bit.toNat + 65536 * len := by
  have hbit := bufBit_toNat_lt b
  have hlow : (opc ||| b.bit <<< 8).toNat = opc.toNat + 256 * b.bit.toNat :=
    toNat_or_shiftLeft_of_lt hopc (by omega)
  have hnat : (BitVec.ofNat 32 len).toNat = len := Nat.mod_eq_of_lt (by omega)
  rw [wordB, toNat_or_shiftLeft_of_lt (by rw [hlow]; omega) (by rw [hnat]; omega), hlow, hnat]
  rfl

theorem wordC_toNat {opc : Word} {ch : Nat} (hopc : opc.toNat < 256) (hch : ch < 8) :
    (wordC opc ch).toNat = opc.toNat + 256 * ch := by
  have hnat : (BitVec.ofNat 32 ch).toNat = ch := Nat.mod_eq_of_lt (by omega)
  rw [wordC, toNat_or_shiftLeft_of_lt hopc (by rw [hnat]; omega), hnat]
  rfl

theorem field_toNat (w : Word) (start len : Nat) :
    (w.extractLsb' start len).toNat = w.toNat / 2 ^ start % 2 ^ len := by
  rw [BitVec.extractLsb'_toNat, Nat.shiftRight_eq_div_pow]

theorem field_eq_zero_iff {w : Word} {start len : Nat} :
    w.extractLsb' start len = 0#len ↔ w.toNat / 2 ^ start % 2 ^ len = 0 := by
  rw [← BitVec.toNat_inj, field_toNat, BitVec.toNat_ofNat, Nat.zero_mod]

/-- A format B word is known by its fields (R70, R71). -/
theorem wordB_eq_iff {w opc : Word} {b : Buf} {len : Nat} (hopc : opc.toNat < 256) (hlen : len < 256) :
    wordB opc b len = w ↔ opcField w = opc.toNat ∧
      (w.extractLsb' 24 8 = 0#8 ∧ w.extractLsb' 9 7 = 0#7) ∧ bufField w = b ∧ lenField w = len := by
  have hbit := bufBit_toNat_lt b
  rw [← BitVec.toNat_inj, wordB_toNat hopc hlen, opcField, lenField, bufField_eq_iff,
    field_eq_zero_iff, field_eq_zero_iff, field_toNat, field_toNat, field_toNat]
  omega

/-- A format C word is known by its fields (R70, R71). -/
theorem wordC_eq_iff {w opc : Word} {ch : Nat} (hopc : opc.toNat < 256) (hch : ch < 8) :
    wordC opc ch = w ↔ opcField w = opc.toNat ∧ w.extractLsb' 11 21 = 0#21 ∧ chField w = ch := by
  rw [← BitVec.toNat_inj, wordC_toNat hopc hch, opcField, chField, field_eq_zero_iff, field_toNat,
    field_toNat]
  omega

/-! ### Decoding and encoding agree -/

/-- What decodes is well formed, and its word is the one decoded (R78). -/
theorem encode_of_decodeWord {w : Word} {i : Instr} (h : decodeWord w = .ok i) :
    i.WellFormed ∧ encode i = w := by
  unfold decodeWord at h
  split at h
  case h_2 | h_3 | h_4 =>
    next hop =>
      obtain ⟨hzero, rfl⟩ := formatB_ok_fields h
      exact ⟨decide_eq_true (lenField_lt w),
        (wordB_eq_iff (by decide) (lenField_lt w)).mpr ⟨hop, hzero, rfl, rfl⟩⟩
  case h_11 hop =>
    obtain ⟨hzero, rfl⟩ := formatC_ok_fields h
    exact ⟨decide_eq_true (chField_lt w),
      (wordC_eq_iff (by decide) (chField_lt w)).mpr ⟨hop, hzero, rfl⟩⟩
  case h_20 => cases h
  all_goals
    next hop =>
      obtain ⟨rfl, hzero⟩ := formatN_ok h
      exact ⟨rfl, (word_of_fields hop hzero).symm⟩

/-- A format B word decodes by the row of the opcode map that its `OPC` selects (R72). -/
theorem decodeWord_wordB {opc : Word} {b : Buf} {len : Nat} {j : Buf → Nat → Instr}
    (hrow : ∀ w, opcField w = opc.toNat → decodeWord w = formatB w j) (hopc : opc.toNat < 256)
    (hlen : len < 256) : decodeWord (wordB opc b len) = .ok (j b len) := by
  obtain ⟨hop, hzero, hb, hl⟩ := (wordB_eq_iff (w := wordB opc b len) hopc hlen).mp rfl
  rw [hrow _ hop, formatB_of_fields hzero, hb, hl]

/-- The word of a well-formed instruction decodes to it (R78). -/
theorem decodeWord_encode {i : Instr} (h : i.WellFormed) : decodeWord (encode i) = .ok i := by
  cases i with
  | cksump b len | cksumf b len | valid b len =>
    exact decodeWord_wordB (fun w hop => by rw [decodeWord, hop]; rfl) (by decide) (of_decide_eq_true h)
  | cvtv2e ch =>
    obtain ⟨hop, hzero, hch⟩ :=
      (wordC_eq_iff (opc := 0x32) (by decide) (of_decide_eq_true h : ch < 8)).mp rfl
    have hrow : decodeWord (wordC 0x32 ch) = formatC (wordC 0x32 ch) .cvtv2e := by
      rw [decodeWord, hop]; rfl
    rw [encode, hrow, formatC_of_fields hzero, hch]
  | _ => rfl

/-- Settles O1: a word is known by its fields, which decoding reads and encoding writes. -/
theorem decodeEncodeAgree : Obligations.DecodeEncodeAgree := by
  intro w i
  refine ⟨encode_of_decodeWord, ?_⟩
  rintro ⟨hwf, rfl⟩
  exact decodeWord_encode hwf

/-- Settles O2: eight words, decoded. -/
theorem specWordsDecode : Obligations.SpecWordsDecode := by
  unfold Obligations.SpecWordsDecode
  decide

/-! ### The rows of the opcode table -/

/-- A well-formed instruction's word matches its row (R72). -/
theorem encode_matches {i : Instr} (h : i.WellFormed) : encode i &&& (matchMask i).2 = (matchMask i).1 := by
  cases i with
  | nop => exact Laws.MatchMask.nop h
  | cksump b len => exact Laws.MatchMask.cksump b len h
  | cksumf b len => exact Laws.MatchMask.cksumf b len h
  | valid b len => exact Laws.MatchMask.valid b len h
  | cvtv2e ch => exact Laws.MatchMask.cvtv2e ch h
  | _ => exact BitVec.and_allOnes

/-- Where a row's mask covers a field, a word that matches the row has the row's field. -/
theorem field_of_masked {w mask opc : Word} {start len : Nat} (h : w &&& mask = opc)
    (hmask : mask.extractLsb' start len = BitVec.allOnes len) :
    w.extractLsb' start len = opc.extractLsb' start len := by
  rw [← h, BitVec.extractLsb'_and, hmask, BitVec.and_allOnes]

/-- The mask of format B covers `OPC` and the reserved bits (R70). -/
theorem wordB_of_masked {w opc : Word} (h : w &&& 0xFF00FEFF = opc) (hopc : opc.toNat < 256) :
    wordB opc (bufField w) (lenField w) = w := by
  refine (wordB_eq_iff hopc (lenField_lt w)).mpr ⟨?opcode, ⟨?high, ?middle⟩, rfl, rfl⟩
  case opcode => rw [opcField, field_of_masked h (by decide), field_toNat]; omega
  case high => rw [field_of_masked h (by decide), field_eq_zero_iff]; omega
  case middle => rw [field_of_masked h (by decide), field_eq_zero_iff]; omega

/-- The mask of format C covers `OPC` and the reserved bits (R70). -/
theorem wordC_of_masked {w opc : Word} (h : w &&& 0xFFFFF8FF = opc) (hopc : opc.toNat < 256) :
    wordC opc (chField w) = w := by
  refine (wordC_eq_iff hopc (chField_lt w)).mpr ⟨?opcode, ?high, rfl⟩
  case opcode => rw [opcField, field_of_masked h (by decide), field_toNat]; omega
  case high => rw [field_of_masked h (by decide), field_eq_zero_iff]; omega

/-- The mask of format N covers the whole word (R70). -/
theorem word_of_fullMask {w : Word} {i : Instr} (h : w &&& (matchMask i).2 = (matchMask i).1)
    (hrow : matchMask i = (encode i, BitVec.allOnes 32)) : encode i = w := by
  rw [hrow] at h
  exact h.symm.trans BitVec.and_allOnes

/-- A word that matches a row is the word of a well-formed instruction (R72). -/
theorem exists_encode_of_matches {w : Word} {i : Instr} (h : w &&& (matchMask i).2 = (matchMask i).1) :
    ∃ j : Instr, encode j = w ∧ j.WellFormed := by
  have hlen := decide_eq_true (lenField_lt w)
  cases i with
  | cksump => exact ⟨.cksump _ _, wordB_of_masked h (by decide), hlen⟩
  | cksumf => exact ⟨.cksumf _ _, wordB_of_masked h (by decide), hlen⟩
  | valid => exact ⟨.valid _ _, wordB_of_masked h (by decide), hlen⟩
  | cvtv2e => exact ⟨.cvtv2e _, wordC_of_masked h (by decide), decide_eq_true (chField_lt w)⟩
  | _ => exact ⟨_, word_of_fullMask h rfl, rfl⟩

/-- A word decodes exactly when it matches a row of the opcode table (R73). -/
theorem decodes_iff_matches {w : Word} :
    (∃ i, decodeWord w = .ok i) ↔ ∃ i : Instr, w &&& (matchMask i).2 = (matchMask i).1 := by
  refine ⟨fun ⟨i, hi⟩ => ?_, fun ⟨i, hi⟩ => ?_⟩
  · obtain ⟨hwf, rfl⟩ := encode_of_decodeWord hi
    exact ⟨i, encode_matches hwf⟩
  · obtain ⟨j, rfl, hwf⟩ := exists_encode_of_matches hi
    exact ⟨j, decodeWord_encode hwf⟩

/-! ### The Engine's turn on a pending word -/

theorem step_command {w : Word} {rest : List Turn} {s : State} (h : NextTurn .engine rest s)
    (hx : s.xfer = .none) (ho : s.oneShot = false) (hp : s.pending = some w) :
    step s = commandStep w (scheduled rest s) :=
  (step_engine h).trans (engineTurn_command (s := scheduled rest s) hx hp ho)

/-- With nothing scheduled the block's own turn is the Engine's, as no request waits (entry 1). -/
theorem step_command_unscheduled {w : Word} {s : State} (hpin : s.env.resetPin = false)
    (hag : s.env.agenda = []) (hx : s.xfer = .none) (ho : s.oneShot = false)
    (hp : s.pending = some w) : step s = commandStep w (unscheduled s) := by
  have hown : ownTurn s = .engine := by rw [ownTurn, hx]
  rw [step_unscheduled hag, hown, takeTurn_released (s := unscheduled s) hpin]
  exact engineTurn_command (s := unscheduled s) hx hp ho

/-- Settles O4: in both forms of the Engine's turn the command step decodes the word to `i`. -/
theorem stepRunsDecodedCommand : Obligations.StepRunsDecodedCommand := by
  intro s w i hpin hx ho hp hi
  refine ⟨fun rest hag => ?scheduled, fun hag => ?unscheduled⟩
  case scheduled => rw [step_command ⟨hag, hpin⟩ hx ho hp, commandStep_ok hi]
  case unscheduled => rw [step_command_unscheduled hpin hag hx ho hp, commandStep_ok hi]

/-- Settles O3: the words that match a row are those that decode; any other makes the command step fail. -/
theorem illegalWordRefused : Obligations.IllegalWordRefused := by
  intro w
  refine ⟨decodes_iff_matches.mpr, fun hnone s rest hturn hx ho hp => ?_⟩
  rw [step_command hturn hx ho hp]
  cases hw : decodeWord w with
  | ok i =>
    obtain ⟨j, hj⟩ := decodes_iff_matches.mp ⟨i, hw⟩
    exact absurd hj (hnone j)
  | error e => exact commandStep_error hw

end Sys2Proof.Machine
end

section
/-! PROOFS. How a command ends (`30_encoding.md` R74 to R77, `60_exceptions.md` R146, R147): its issue by the
host, the check of the loop state, what a refused command leaves alone, and the answer to OPEN. -/

namespace Sys2Proof.Machine

/-! ### Issue -/

theorem issue_of_busy {v : Word} {s : State} (h : s.status.busy = true) :
    issue v s = { s with status := { s.status with overrun := true } } :=
  if_pos h

theorem issue_of_not_busy {v : Word} {s : State} (h : s.status.busy = false) :
    issue v s = { s with
      cfg := { s.cfg with cmd := v }
      pending := some v
      status := { s.status with busy := true } } :=
  if_neg (by rw [h]; decide)

/-- Settles O43: `CMD` is writable at any time, and its write is the issue. -/
theorem commandIssue : Obligations.CommandIssue := by
  intro s rest v hturn
  have hcmd : regAt 0x00C 32 = some .cmd := rfl
  have hissue : step s = .next (issue v (scheduled rest s)) := step_write hturn hcmd
  refine ⟨fun hb => ?busy, fun hb => ?free⟩
  case busy => rw [hissue, issue_of_busy (s := scheduled rest s) hb]; rfl
  case free => rw [hissue, issue_of_not_busy (s := scheduled rest s) hb]; rfl

/-! ### Completion -/

/-- Settles O5: NOP has no check and no work, so it is the completion itself. -/
theorem nopCompletes : Obligations.NopCompletes :=
  fun _ => rfl

/-! ### The check of the loop state -/

/-- `t` does not end its command with STATE: it waits still, or has ended with another code. -/
def NoStateError (t : State) : Prop := t.pending = none → t.err.cmdErr ≠ .state

theorem noStateError_complete {c : ErrCode} (hc : c ≠ .state) (s : State) : NoStateError (complete c s) :=
  fun _ => hc

theorem noStateError_of_pending {t : State} (h : t.pending.isSome = true) : NoStateError t :=
  fun hnone => by rw [hnone] at h; cases h

/-- The check of a data command is its row of the table (R77). -/
theorem allowsData_eq_allowedIn {i : Instr} {s : State}
    (hrow : ∀ st, allowedIn i st = (st != .running) := by intro st; cases st <;> rfl) :
    allowsData s = allowedIn i s.status.state :=
  (hrow s.status.state).symm

theorem allowsStop_eq_allowedIn {s : State} : allowsStop s = allowedIn .stop s.status.state := by
  unfold allowsStop
  cases s.status.state <;> rfl

/-- `k` begins with the check of the loop state by the table of R77, and what follows the check ends a
pending command with no STATE. -/
def ChecksState (i : Instr) (s : State) (k : Outcome) : Prop :=
  ∃ rest, k = require (allowedIn i s.status.state) .state s rest ∧
    (s.pending.isSome = true → AllNext NoStateError rest)

theorem ChecksState.of_require {i : Instr} {s : State} {ok : Bool} {k : Outcome}
    (hok : ok = allowedIn i s.status.state) (hk : s.pending.isSome = true → AllNext NoStateError k) :
    ChecksState i s (require ok .state s k) :=
  ⟨k, by rw [hok], hk⟩

/-- Every command checks the loop state first, and no later check of it gives STATE (R75, R77). -/
theorem exec_checksState (i : Instr) (s : State) : ChecksState i s (exec i s) := by
  have hdone (u : State) : AllNext NoStateError (done u) := .next (noStateError_complete (c := .none) nofun u)
  have hcheck {c : ErrCode} {ok : Bool} {k : Outcome} (hc : c ≠ .state) (hk : AllNext NoStateError k) :
      AllNext NoStateError (require ok c s k) := .require (noStateError_complete hc s) hk
  cases i with
  | nop => exact ⟨_, rfl, fun _ => hdone s⟩
  | cksump | cksumf | valid | encraw | cvtv2e | gen =>
    exact .of_require allowsData_eq_allowedIn fun _ => hcheck nofun (hdone _)
  | decode => exact .of_require allowsData_eq_allowedIn fun _ => hcheck nofun (hcheck nofun (hdone _))
  | encpos | encvolt | cvtd2r | cvtr2d | cvtc2p | ctlaw =>
    exact .of_require allowsData_eq_allowedIn fun _ => hdone _
  | init =>
    exact .of_require (by cases s.status.state <;> rfl) fun hp => .next (noStateError_of_pending hp)
  | start => exact .of_require (by cases s.status.state <;> rfl) fun _ => hcheck nofun (hdone _)
  | stop =>
    exact .of_require allowsStop_eq_allowedIn fun hp =>
      .ite (fun _ => hdone _) fun _ => .next (noStateError_of_pending hp)
  | reset =>
    exact .of_require allowsData_eq_allowedIn fun hp =>
      .ite (fun _ => .next (noStateError_of_pending hp)) fun _ => hdone _
  | cycle1 =>
    exact .of_require (by cases s.status.state <;> rfl) fun hp =>
      hcheck nofun (.next (noStateError_of_pending hp))

/-- Settles O6: the check of the loop state is each command's first, and the only one that gives STATE. -/
theorem wrongStateRefused : Obligations.WrongStateRefused := by
  intro i s
  obtain ⟨k, hexec, hrest⟩ := exec_checksState i s
  rw [hexec]
  refine ⟨fun hno => ?refused, fun hyes hp t ht => ?allowed⟩
  case refused => rw [hno]; rfl
  case allowed =>
    rw [hyes] at ht
    exact hrest hp t ht

/-! ### Failed commands -/

/-- Settles O7: of the next states of a command only the failed completion has an error code. -/
theorem failedCommandWritesNothing : Obligations.FailedCommandWritesNothing := by
  intro i s t hp ht hended hcode
  cases exec_executes i s t ht with
  | ends c => rfl
  | data | start | stopLoop | reset => exact absurd rfl hcode
  | init | stopLink | resetLink | cycle1 => exact nomatch (hended ▸ hp : (none : Option Word).isSome = true)

/-! ### The answer to OPEN -/

/-- Settles O27: OK is `initDone`; the failures are fatal and complete INIT, which made the request. -/
theorem openAnswer : Obligations.OpenAnswer := by
  intro s rest a hturn hx failed
  have hstarted : commandStarted (scheduled rest s) = true := by
    simp [commandStarted, hx]
  have hanswer : step s = .next (answerOpen a (scheduled rest s)) := by
    rw [step_transport hturn, transportTurn, scheduled_xfer, hx]
  have hfatal (c : ErrCode) : fatal c .boundary (scheduled rest s) = failed c := by
    rw [fatal, hstarted]; rfl
  rw [hanswer]
  refine ⟨?ok, ?fail, ?initFail⟩
  case ok => rintro rx rfl; rfl
  case fail => rintro rfl; rw [answerOpen, hfatal]
  case initFail => rintro rfl; rw [answerOpen, hfatal]

end Sys2Proof.Machine
end

section
/-! PROOFS. The frame encoder (`42_encoder.md`): the motion frame of the command vector, ENCPOS and ENCVOLT,
stage ENCODE, and the frames that the Transport is handed (R80, R81, R103, R133, R134). -/

namespace Sys2Proof.Machine

/-! ### The raw values of a motion frame -/

theorem sat16_eq (v : Int) : sat16 v = max (-32768) (min 32767 v) := by
  rw [sat16, sat]; omega

/-- The volts of a 32-bit register fit the wire's 16 bits (R96). -/
theorem tdiv_volts_bounds (x : Word) : -32768 ≤ x.toInt.tdiv 65536 ∧ x.toInt.tdiv 65536 ≤ 32767 := by
  have hlow := x.le_toInt
  have hhigh := x.toInt_lt
  rw [Int.tdiv_eq_ediv, show Int.sign 65536 = 1 from rfl]
  split <;> omega

theorem v2raw_toInt (x : Word) : v2raw x.toInt = x.toInt.tdiv 65536 := by
  obtain ⟨hlow, hhigh⟩ := tdiv_volts_bounds x
  rw [v2raw, trunc_eq_tdiv, sat16_eq]
  omega

/-- No register holds volts beyond the wire's range (R96). -/
theorem v2rawRange_toInt (x : Word) : v2rawRange x.toInt = false := by
  obtain ⟨hlow, hhigh⟩ := tdiv_volts_bounds x
  rw [v2rawRange, trunc_eq_tdiv, decide_eq_false (by omega), decide_eq_false (by omega), Bool.or_false]

theorem anyCh_d2rRange (v : Six Word) :
    (Six.anyCh fun ch => d2rRange (sext32 (v.get ch))) =
      decide (∃ ch : Channel, 9830400 < |(v.get ch).toInt|) := by
  have hch (q : Int) : d2rRange q = true ↔ 9830400 < |q| := by
    rw [d2rRange, decide_eq_true_eq, Int.abs_eq_natAbs]; omega
  rw [Bool.eq_iff_iff, Six.anyCh_iff, decide_eq_true_eq]
  exact exists_congr fun ch => hch _

theorem anyCh_v2rawRange (v : Six Word) : (Six.anyCh fun ch => v2rawRange (sext32 (v.get ch))) = false := by
  rw [← Bool.not_eq_true, Six.anyCh_iff]
  rintro ⟨ch, h⟩
  exact nomatch (v2rawRange_toInt _).symm.trans h

/-! ### Motion frames -/

/-- In a sealed frame the last byte negates the first: the bytes between sum to 0 (R88, R105). -/
theorem lastByte_eq_neg_first {B : Nat → Byte} {L : Nat} (hL : 2 ≤ L)
    (hpay : (∑ k ∈ Finset.Ico 1 (L - 1), (B k).toNat) % 256 = 0)
    (hframe : (∑ k ∈ Finset.range L, (B k).toNat) % 256 = 0) : B (L - 1) = -B 0 := by
  have hlast := sum_Ico_pred_add B (lo := 0) (hi := L) (by omega)
  have hfirst : (∑ k ∈ Finset.Ico 0 (L - 1), (B k).toNat) =
      (B 0).toNat + ∑ k ∈ Finset.Ico 1 (L - 1), (B k).toNat :=
    Finset.sum_eq_sum_Ico_succ_bot (by omega) _
  rw [Finset.range_eq_Ico] at hframe
  apply BitVec.eq_of_toNat_eq
  rw [BitVec.toNat_neg]
  omega

/-- Header and payload, the 15 bytes of a motion frame before its check bytes (R103). -/
def motionBytes (mode : Byte) (conv : Int → Int) (s : State) : List Byte :=
  [0x11, protoAddr s, mode] ++ motionPayload conv s

theorem motionBytes_length (mode : Byte) (conv : Int → Int) (s : State) :
    (motionBytes mode conv s).length = 15 := rfl

/-- The body is the header and the payload, with the rest of `TXBUF` as it was (R103). -/
theorem memRead_motionBody {mode : Byte} {conv : Int → Int} {s : State} {k : Nat}
    (h : s.txbuf.wf Config.txMax = true) :
    memRead (motionBody mode conv s) k =
      if k < 15 then (motionBytes mode conv s).getD k 0 else memRead s.txbuf k := by
  rw [motionBody, ← motionBytes, memRead_memWriteBytes h (by rw [motionBytes_length]; decide),
    motionBytes_length, Nat.zero_add, Nat.sub_zero]
  simp only [Nat.zero_le, true_and]

/-- Channel `ch` has the bytes 3 + 2 ch and 4 + 2 ch, low byte first (R81). -/
theorem motionBytes_channel (mode : Byte) (conv : Int → Int) (s : State) (ch : Channel) :
    (motionBytes mode conv s).getD (3 + 2 * ch.val) 0 = (motionRaw conv s ch).extractLsb' 0 8 ∧
      (motionBytes mode conv s).getD (4 + 2 * ch.val) 0 = (motionRaw conv s ch).extractLsb' 8 8 := by
  fin_cases ch <;> exact ⟨rfl, rfl⟩

/-- The bytes of a built frame: header and payload as given, and from 17 on those of `TXBUF` (R103). -/
theorem memRead_buildMotion {mode : Byte} {conv : Int → Int} {range : Int → Bool} {s : State} {k : Nat}
    (h : s.txbuf.wf Config.txMax = true) (h15 : k ≠ 15) (h16 : k ≠ 16) :
    memRead (buildMotion mode conv range s).txbuf k =
      if k < 15 then (motionBytes mode conv s).getD k 0 else memRead s.txbuf k := by
  rw [buildMotion, rangeEvent_txbuf, memRead_sealFrame h15 h16, memRead_motionBody h]

theorem buildMotion_motionFrame {mode : Byte} {conv : Int → Int} {range : Int → Bool} {s : State}
    (h : s.txbuf.wf Config.txMax = true) :
    MotionFrame (protoAddr s) mode (fun ch => conv (sext32 (s.cmdv.get ch)))
      (memRead (buildMotion mode conv range s).txbuf) := by
  have hhead {k : Nat} (hk : k < 15) : memRead (buildMotion mode conv range s).txbuf k =
      (motionBytes mode conv s).getD k 0 := by
    rw [memRead_buildMotion h (by omega) (by omega), if_pos hk]
  obtain ⟨-, -, hpay, hframe, -⟩ := buildMotion_sealed mode conv range h
  refine ⟨hhead (by decide), hhead (by decide), hhead (by decide), fun ch => ?payload, hpay, ?last⟩
  case payload =>
    obtain ⟨hlow, hhigh⟩ := motionBytes_channel mode conv s ch
    exact ⟨(hhead (by omega)).trans hlow, (hhead (by omega)).trans hhigh⟩
  case last =>
    rw [lastByte_eq_neg_first (L := 17) (by decide) hpay hframe, hhead (by decide)]
    rfl

theorem buildMotion_keeps_bytes {mode : Byte} {conv : Int → Int} {range : Int → Bool} {s : State}
    (h : s.txbuf.wf Config.txMax = true) (k : Nat) (hk : 17 ≤ k) :
    memRead (buildMotion mode conv range s).txbuf k = memRead s.txbuf k := by
  rw [memRead_buildMotion h (by omega) (by omega), if_neg (by omega)]

/-- A range event writes its two flags alone (R97). -/
theorem rangeEvent_eq (hit : Bool) (s : State) :
    rangeEvent hit s = { s with status := (rangeEvent hit s).status, ip := (rangeEvent hit s).ip } := by
  cases hit <;> rfl

theorem rangeEvent_false (s : State) : rangeEvent false s = s := rfl

theorem rangeEvent_flags (hit : Bool) (s : State) : RangeFlags hit s (rangeEvent hit s) :=
  ⟨rangeEvent_status hit s, rangeEvent_ip hit s⟩

/-- Building a motion frame writes `TXBUF`, `TX_LEN` and the range flags alone (R103). -/
theorem buildMotion_eq (mode : Byte) (conv : Int → Int) (range : Int → Bool) (s : State) :
    buildMotion mode conv range s = { s with
      status := (buildMotion mode conv range s).status, ip := (buildMotion mode conv range s).ip
      txbuf := (buildMotion mode conv range s).txbuf, txLen := 17 } := by
  rw [buildMotion, rangeEvent_txbuf]
  exact rangeEvent_eq _ _

/-! ### The position frame and the voltage frame -/

/-- The position frame of `s`, built in `t` (R97, R103, R106). -/
structure PositionBuilt (s t : State) : Prop where
  range : RangeFlags (decide (∃ ch : Channel, 9830400 < |(s.cmdv.get ch).toInt|)) s t
  frame : MotionFrame (s.cfg.proto.extractLsb' 0 8) (s.cfg.proto.extractLsb' 8 8)
    (fun ch => max (-32768) (min 32767 (rhaz ((s.cmdv.get ch).toInt * 32767) 9830400)))
    (memRead t.txbuf)
  rest : ∀ k, 17 ≤ k → memRead t.txbuf k = memRead s.txbuf k
  kept : t = { s with status := t.status, ip := t.ip, txbuf := t.txbuf, txLen := 17 }

theorem buildPosition_built {s : State} (h : s.txbuf.wf Config.txMax = true) :
    PositionBuilt s (buildPosition s) where
  range := by
    rw [← anyCh_d2rRange]
    exact rangeEvent_flags _ _
  frame := by
    have hraw : (fun ch => d2r (sext32 (s.cmdv.get ch))) = fun ch =>
        max (-32768) (min 32767 (rhaz ((s.cmdv.get ch).toInt * 32767) 9830400)) :=
      funext fun ch => sat16_eq _
    rw [← hraw]
    exact buildMotion_motionFrame h
  rest := buildMotion_keeps_bytes h
  kept := buildMotion_eq _ _ _ s

/-- The voltage frame of `s`, built in `t` (R96, R103, R107). -/
structure VoltageBuilt (s t : State) : Prop where
  frame : MotionFrame (s.cfg.proto.extractLsb' 0 8) (s.cfg.proto.extractLsb' 16 8)
    (fun ch => (s.cmdv.get ch).toInt.tdiv 65536) (memRead t.txbuf)
  rest : ∀ k, 17 ≤ k → memRead t.txbuf k = memRead s.txbuf k
  kept : t = { s with txbuf := t.txbuf, txLen := 17 }

theorem buildVoltage_built {s : State} (h : s.txbuf.wf Config.txMax = true) :
    VoltageBuilt s (buildVoltage s) where
  frame := by
    have hraw : (fun ch => v2raw (sext32 (s.cmdv.get ch))) = fun ch =>
        (s.cmdv.get ch).toInt.tdiv 65536 :=
      funext fun ch => v2raw_toInt _
    rw [← hraw]
    exact buildMotion_motionFrame h
  rest := buildMotion_keeps_bytes h
  kept := by
    rw [buildVoltage, buildMotion, anyCh_v2rawRange, rangeEvent_false]

/-! ### The commands ENCPOS and ENCVOLT -/

theorem exec_encpos {s : State} (hs : s.status.state ≠ .running) :
    exec .encpos s = .next (complete .none (withCheckResult (buildPosition s))) := by
  show execEncpos s = _
  rw [execEncpos, allowsData_of_not_running hs, require_true, done_eq]

theorem exec_encvolt {s : State} (hs : s.status.state ≠ .running) :
    exec .encvolt s = .next (complete .none (withCheckResult (buildVoltage s))) := by
  show execEncvolt s = _
  rw [execEncvolt, allowsData_of_not_running hs, require_true, done_eq]

/-- `s` with `RESULT` replaced (R25). -/
def withResult (r : Word) (s : State) : State := { s with result := r }

/-- The check bytes of a frame of 17 bytes are the bytes 15 and 16 (R103). -/
theorem withCheckResult_motion {u : State} (h : u.txLen = 17) :
    withCheckResult u = withResult ((memRead u.txbuf 16 ++ memRead u.txbuf 15).setWidth 32) u := by
  have hbytes : checkBytes u.txbuf u.txLen.toNat =
      (memRead u.txbuf 16 ++ memRead u.txbuf 15).setWidth 32 := by rw [h]; rfl
  rw [withCheckResult, hbytes, withResult]

/-- Settles O18: the position frame, with its check bytes in RESULT. -/
theorem encposBuildsFrame : Obligations.EncposBuildsFrame := by
  intro s hs hwf
  obtain ⟨range, frame, tail, kept⟩ := buildPosition_built hwf
  refine ⟨withCheckResult (buildPosition s), exec_encpos hs, range, frame, tail, ?_⟩
  rw [withCheckResult_motion (congrArg State.txLen kept)]
  exact congrArg (withResult _) kept

/-- Settles O19: the voltage frame, with its check bytes in RESULT. -/
theorem encvoltBuildsFrame : Obligations.EncvoltBuildsFrame := by
  intro s hs hwf
  obtain ⟨frame, tail, kept⟩ := buildVoltage_built hwf
  refine ⟨withCheckResult (buildVoltage s), exec_encvolt hs, frame, tail, ?_⟩
  rw [withCheckResult_motion (congrArg State.txLen kept)]
  exact congrArg (withResult _) kept

/-! ### Stage ENCODE -/

/-- The number of a mode (`10_state.md` R22). -/
def Mode.bits (m : Mode) : BitVec 2 :=
  match m with
  | .pos => 0
  | .voltOl => 1
  | .voltCl => 2
  | .raw => 3

theorem ctrlMode_of_bits {s : State} (m : Mode) (h : s.cfg.ctrl.extractLsb' 0 2 = m.bits) :
    ctrlMode s = m := by
  rw [ctrlMode, h]
  cases m <;> rfl

theorem step_encode {rest : List Turn} {s : State} (h : AtStage .encode rest s) :
    step s = stageEncode (scheduled rest s) := by
  have hstage : (scheduled rest s).status.stage = .encode := h.stage
  rw [step_stage h, stageStep, hstage]

theorem stageEncode_pos {s : State} (h : ctrlMode s = .pos) :
    stageEncode s = .next (setStage .exchange (buildPosition s)) := by
  rw [stageEncode, h]

theorem stageEncode_volt {s : State} (h : ctrlMode s = .voltOl ∨ ctrlMode s = .voltCl) :
    stageEncode s = .next (setStage .exchange (buildVoltage s)) := by
  rcases h with h | h <;> rw [stageEncode, h]

theorem stageEncode_raw {s : State} (h : ctrlMode s = .raw) (hL : rawLengthOk s.txLen.toNat = true) :
    stageEncode s = .next (setStage .exchange (sealRaw s)) := by
  rw [stageEncode, h]
  exact if_pos hL

/-- Sealing a host-built frame changes its length byte and its check bytes alone (R108). -/
theorem memRead_sealRaw_of_ne {s : State} {k : Nat} (h0 : k ≠ 0) (h2 : k ≠ s.txLen.toNat - 2)
    (h1 : k ≠ s.txLen.toNat - 1) : memRead (sealRaw s).txbuf k = memRead s.txbuf k := by
  rw [sealRaw_txbuf, memRead_sealFrame h2 h1, memRead_memWrite_of_ne h0]

theorem memRead_sealRaw_zero {s : State} (h : s.txbuf.wf Config.txMax = true) (hL : 5 ≤ s.txLen.toNat) :
    memRead (sealRaw s).txbuf 0 = s.txLen := by
  rw [sealRaw_txbuf, memRead_sealFrame (by omega) (by omega), memRead_memWrite_self h]

/-- Settles O36: the frame of each mode; RAW's is sealed, and so validates. -/
theorem encodeStage : Obligations.EncodeStage := by
  intro s rest h hwf u addr
  rw [step_encode h]
  refine ⟨fun hm => ?pos, fun hm => ?volt, fun hm hlow hhigh => ?raw⟩
  case pos =>
    obtain ⟨range, frame, tail, kept⟩ := buildPosition_built (s := u) hwf
    exact ⟨_, stageEncode_pos (ctrlMode_of_bits .pos hm), range, frame, tail, kept⟩
  case volt =>
    obtain ⟨frame, tail, kept⟩ := buildVoltage_built (s := u) hwf
    have hmode := hm.imp (ctrlMode_of_bits .voltOl) (ctrlMode_of_bits .voltCl)
    exact ⟨_, stageEncode_volt hmode, frame, tail, kept⟩
  case raw =>
    have hL : rawLengthOk u.txLen.toNat = true := rawLengthOk_iff.mpr ⟨hlow, hhigh⟩
    obtain ⟨-, -, hpay, hvalid⟩ := sealRaw_sealed (s := u) hwf hL
    exact ⟨_, stageEncode_raw (ctrlMode_of_bits .raw hm) hL, memRead_sealRaw_zero (s := u) hwf hlow,
      hvalid, hpay, fun k => memRead_sealRaw_of_ne (s := u), rfl⟩

/-! ### Frames handed to the Transport -/

theorem getD_bytesFrom {f : Nat → Byte} {lo n k : Nat} (hk : k < n) :
    (bytesFrom f lo n).getD k 0 = f (lo + k) := by
  induction n generalizing lo k with
  | zero => omega
  | succ n ih =>
    cases k with
    | zero => rfl
    | succ k => rw [bytesFrom, List.getD_cons_succ, ih (by omega), Nat.add_right_comm, Nat.add_assoc]

/-- Only its own bytes decide whether a frame is sealed. -/
theorem sealed_congr {B C : Nat → Byte} {L : Nat} (h : ∀ k < L, B k = C k) : Sealed B L ↔ Sealed C L := by
  have hsum : (∑ k ∈ Finset.Ico 1 (L - 1), (B k).toNat) = ∑ k ∈ Finset.Ico 1 (L - 1), (C k).toNat :=
    Finset.sum_congr rfl fun k hk => by
      have hk := Finset.mem_Ico.mp hk
      rw [h k (by omega)]
  refine and_congr_right fun hL => ?_
  rw [h 0 (by omega), hsum, validates_congr h]

/-- Settles O60: the invariant, which every step keeps, says that the bytes in flight are the sealed frame
of `TXBUF`. -/
theorem framesSentValidate : Obligations.FramesSentValidate := by
  intro s t tx hinv hstep _ hx
  have ht := stepKeepsInv s t hinv hstep
  obtain ⟨hcycle, hstage, rfl⟩ := ht.exchange tx hx
  obtain ⟨hfit, hsealed⟩ := ht.frame hcycle hstage
  rw [bytesFrom_length]
  refine ⟨hfit, (sealed_congr fun k hk => ?_).mp hsealed⟩
  rw [getD_bytesFrom hk, Nat.zero_add]

end Sys2Proof.Machine
end

section
/-! PROOFS. The checksum family (`40_checksum.md`): what sealing gives at every length, that one changed byte
shows in a check byte, the command ENCRAW, and the operands that data commands refuse (R75, R88, R108). -/

namespace Sys2Proof.Machine

/-! ### Sealing at every length -/

/-- Both sums are 0 mod 256 from 2 bytes on, where sealing overwrites the first byte and the payload is
empty (R88). -/
theorem sealFrame_sums_of_two_le {m : Memory} {L : Nat} (h : m.wf Config.txMax = true) (hlow : 2 ≤ L)
    (hhigh : L ≤ Config.txMax) :
    (∑ k ∈ Finset.Ico 1 (L - 1), (memRead (sealFrame m L) k).toNat) % 256 = 0 ∧
      (∑ k ∈ Finset.range L, (memRead (sealFrame m L) k).toNat) % 256 = 0 := by
  rcases Nat.eq_or_lt_of_le hlow with rfl | hlong
  · obtain ⟨-, hframe⟩ := memRead_sealFrame_checks h hlow hhigh
    have hlast := sum_Ico_pred_add (memRead (sealFrame m 2)) (lo := 0) (hi := 2) (by decide)
    rw [Finset.range_eq_Ico]
    exact ⟨rfl, by omega⟩
  · exact sealFrame_sums h hlong hhigh

/-! ### A changed byte -/

/-- Two sums that differ in the term at `i` alone. -/
theorem sum_Ico_add_swap {f g : Nat → Nat} {lo hi i : Nat} (hlo : lo ≤ i) (hhi : i < hi)
    (h : ∀ k, k ≠ i → f k = g k) :
    (∑ k ∈ Finset.Ico lo hi, f k) + g i = (∑ k ∈ Finset.Ico lo hi, g k) + f i := by
  have hmem : i ∈ Finset.Ico lo hi := Finset.mem_Ico.mpr ⟨hlo, hhi⟩
  have hrest : ∑ k ∈ (Finset.Ico lo hi).erase i, f k = ∑ k ∈ (Finset.Ico lo hi).erase i, g k :=
    Finset.sum_congr rfl fun k hk => h k (Finset.ne_of_mem_erase hk)
  rw [← Finset.sum_erase_add _ f hmem, ← Finset.sum_erase_add _ g hmem, hrest, Nat.add_right_comm]

/-- Check bytes that negate the sums of the same range differ when one byte in it does: the sums differ by
less than 256. -/
theorem negatedSum_ne {B C : Nat → Byte} {lo hi i : Nat} {p q : Byte} (hne : B i ≠ C i)
    (hsame : ∀ k, k ≠ i → B k = C k) (hlo : lo ≤ i) (hhi : i < hi)
    (hp : p.toNat = (256 - (∑ k ∈ Finset.Ico lo hi, (B k).toNat) % 256) % 256)
    (hq : q.toNat = (256 - (∑ k ∈ Finset.Ico lo hi, (C k).toNat) % 256) % 256) : p ≠ q := by
  have hswap := sum_Ico_add_swap (f := fun k => (B k).toNat) (g := fun k => (C k).toNat) hlo hhi
    fun k hk => congrArg BitVec.toNat (hsame k hk)
  have hbyte : (B i).toNat ≠ (C i).toNat := fun heq => hne (BitVec.eq_of_toNat_eq heq)
  have hB := (B i).isLt
  have hC := (C i).isLt
  rintro rfl
  omega

/-- Settles O13: the check bytes negate their sums, and with the sum at 0 what decides validity is a
nonzero byte. -/
theorem sealedFrameValidates : Obligations.SealedFrameValidates := by
  refine ⟨fun m L hwf hlow hhigh => ?sealed, fun B C L i hne hsame => ?changed⟩
  case sealed =>
    obtain ⟨hpay, hframe⟩ := sealFrame_sums_of_two_le hwf hlow hhigh
    exact ⟨hpay, hframe, lastByte_eq_neg_first hlow hpay hframe, and_iff_right hframe⟩
  case changed =>
    exact ⟨fun hlo hhi => negatedSum_ne hne hsame hlo hhi (cksP_toNat B L) (cksP_toNat C L),
      fun hhi => negatedSum_ne hne hsame (Nat.zero_le i) hhi (cksF_toNat B L) (cksF_toNat C L)⟩

/-! ### The command ENCRAW -/

theorem exec_encraw {s : State} (hs : s.status.state ≠ .running)
    (hL : rawLengthOk s.txLen.toNat = true) :
    exec .encraw s = .next (complete .none (withCheckResult (sealRaw s))) := by
  show execEncraw s = _
  rw [execEncraw, allowsData_of_not_running hs, hL, require_true, require_true, done_eq]

/-- Settles O20: past its checks ENCRAW seals the frame, whose last byte negates its length byte. -/
theorem encrawSealsFrame : Obligations.EncrawSealsFrame := by
  intro s hs hwf hlow hhigh L
  have hL : rawLengthOk s.txLen.toNat = true := rawLengthOk_iff.mpr ⟨hlow, hhigh⟩
  have hfirst := memRead_sealRaw_zero hwf hlow
  obtain ⟨-, -, hpay, hframe, -⟩ := sealRaw_sealed hwf hL
  have hlast : memRead (sealRaw s).txbuf (L - 1) = -s.txLen := by
    rw [lastByte_eq_neg_first (by omega) hpay hframe, hfirst]
  exact ⟨withCheckResult (sealRaw s), exec_encraw hs hL, hfirst, hlast, hpay,
    fun _ => memRead_sealRaw_of_ne, rfl⟩

/-! ### Refused operands -/

/-- Outside RUNNING a data command whose operand check fails ends with BAD_OPERAND (R75, R77, R146). -/
theorem operandCheck_refused {ok : Bool} {s : State} {k : Outcome} (hs : s.status.state ≠ .running)
    (hok : ok = false) :
    require (allowsData s) .state s (require ok .badOperand s k) = .next (complete .badOperand s) := by
  rw [allowsData_of_not_running hs, hok, require_true, require_false]

/-- A length beyond the buffer is refused by each command of format B (R89, R90, R91). -/
theorem formatB_length_refused {b : Buf} {len : Nat} {s : State} (hs : s.status.state ≠ .running)
    (hlen : bufSize b < len) :
    exec (.cksump b len) s = .next (complete .badOperand s) ∧
      exec (.cksumf b len) s = .next (complete .badOperand s) ∧
      exec (.valid b len) s = .next (complete .badOperand s) := by
  have hcheck : decide (len ≤ bufSize b) = false := decide_eq_false (Nat.not_le_of_lt hlen)
  exact ⟨operandCheck_refused hs hcheck, operandCheck_refused hs hcheck, operandCheck_refused hs hcheck⟩

theorem rawLengthOk_eq_false_iff {L : Nat} : rawLengthOk L = false ↔ L < 5 ∨ 64 < L := by
  rw [← Bool.not_eq_true, rawLengthOk_iff]
  omega

/-- Settles O8: each listed operand fails the one operand check of its command. -/
theorem operandOutOfRangeRefused : Obligations.OperandOutOfRangeRefused := by
  intro s hs
  refine ⟨fun len hlen => ?tx, fun len hlen => ?rx, fun ch hch => ?channel, fun hL => ?frame,
    fun hgen => ?generator⟩
  case tx => exact formatB_length_refused hs hlen
  case rx => exact formatB_length_refused hs hlen
  case channel => exact operandCheck_refused hs (decide_eq_false (Nat.not_le_of_lt hch))
  case frame => exact operandCheck_refused hs (rawLengthOk_eq_false_iff.mpr hL)
  case generator => exact operandCheck_refused hs (generatorReady_eq_false_iff.mpr hgen)

end Sys2Proof.Machine
end

section
/-! PROOFS. The unit converter (`41_converter.md`): the bounds within which degrees become raw values without
a clamp, the round trip of an angle, and the converter's four commands (R92 to R102). -/

namespace Sys2Proof.Machine

/-! ### Degrees and raw values -/

/-- Scaled back by its divisor a rounded quotient is off by at most half of it (R12). -/
theorem rhaz_mul_bounds (n : Int) {d : Int} (hd : 0 < d) :
    2 * n - d ≤ 2 * (rhaz n d * d) ∧ 2 * (rhaz n d * d) ≤ 2 * n + d := by
  obtain ⟨hnear, -⟩ := rhaz_nearest (n := n) hd.ne'
  rw [abs_of_pos hd] at hnear
  have hlow := neg_abs_le (rhaz n d * d - n)
  have hhigh := le_abs_self (rhaz n d * d - n)
  omega

theorem d2rRange_eq (q : Int) : d2rRange q = decide (9830400 < |q|) := by
  rw [d2rRange, Int.abs_eq_natAbs, decide_eq_decide]
  omega

/-- Within 150 degrees the rounded value lies within the wire's symmetric range (R92). -/
theorem degrees_raw_bounds {q : Int} (hq : |q| ≤ 9830400) :
    -32767 ≤ rhaz (q * 32767) 9830400 ∧ rhaz (q * 32767) 9830400 ≤ 32767 := by
  obtain ⟨hlow, hhigh⟩ := rhaz_mul_bounds (q * 32767) (d := 9830400) (by decide)
  obtain ⟨hqlow, hqhigh⟩ := abs_le.mp hq
  omega

/-- Within 150 degrees `d2r` is the rounded value: no clamp acts (R92). -/
theorem d2r_of_abs_le {q : Int} (hq : |q| ≤ 9830400) : d2r q = rhaz (q * 32767) 9830400 := by
  obtain ⟨hlow, hhigh⟩ := degrees_raw_bounds hq
  calc d2r q
    _ = max (-32768) (min 32767 (rhaz (q * 32767) 9830400)) := sat16_eq _
    _ = rhaz (q * 32767) 9830400 := by omega

/-- Settles O17: with no clamp, the way there errs by at most half a raw unit and the way back by at most
half a Q16.16 unit, which together is less than 151 units. -/
theorem degreeRoundTrip : Obligations.DegreeRoundTrip := by
  intro q hq
  rw [d2r_of_abs_le hq, r2d, mul_assoc]
  generalize hr : rhaz (q * 32767) 9830400 = r
  have hthere := rhaz_mul_bounds (q * 32767) (d := 9830400) (by decide)
  have hback := rhaz_mul_bounds (r * (150 * 65536)) (d := 32767) (by decide)
  rw [hr] at hthere
  rw [abs_le]
  omega

/-! ### The commands CVTD2R, CVTR2D, CVTV2E and CVTC2P -/

/-- Outside RUNNING a data command passes the check of the loop state (R77). -/
theorem dataCheck_passes {s : State} {k : Outcome} (hs : s.status.state ≠ .running) :
    require (allowsData s) .state s k = k := by
  rw [allowsData_of_not_running hs, require_true]

theorem exec_cvtd2r {s : State} (hs : s.status.state ≠ .running) :
    exec .cvtd2r s = .next (complete .none (rangeEvent (d2rRange (sext32 s.cfg.cvtIn))
      { s with cvtOut := wrap32 (d2r (sext32 s.cfg.cvtIn)) })) :=
  dataCheck_passes hs

theorem exec_cvtr2d {s : State} (hs : s.status.state ≠ .running) :
    exec .cvtr2d s = .next (complete .none { s with cvtOut := wrap32 (r2d (cvtRaw s)) }) :=
  dataCheck_passes hs

theorem exec_cvtv2e {ch : Nat} {s : State} (hs : s.status.state ≠ .running) (hch : ch ≤ 5) :
    exec (.cvtv2e ch) s = .next (complete .none { s with cvtOut := wrap32 (v2e (cvtRaw s) ch) }) := by
  show execCvtv2e ch s = _
  rw [execCvtv2e, dataCheck_passes hs, decide_eq_true hch, require_true, done_eq]

theorem exec_cvtc2p {s : State} (hs : s.status.state ≠ .running) :
    exec .cvtc2p s = .next (complete .none { s with
      cvtOut := wrap32 (c2p (curSigned s) (s.cfg.cvtIn.extractLsb' 0 8)) }) :=
  dataCheck_passes hs

/-- Settles O15: past its check CVTD2R writes the clamped value and then raises the range event. -/
theorem degreesToRawClamps : Obligations.DegreesToRawClamps := by
  intro s hs q r
  have hclamp : d2r q = max (-32768) (min 32767 r) := sat16_eq r
  refine ⟨⟨_, exec_cvtd2r hs, ?flags, ?kept⟩, degrees_raw_bounds⟩
  case flags =>
    rw [← d2rRange_eq]
    exact rangeEvent_flags _ _
  case kept =>
    rw [← hclamp]
    exact rangeEvent_eq _ _

/-- Settles O16: past its checks each command writes its conversion; the divisor of CVTV2E is chosen by the
channel. -/
theorem rawConversionsRoundOnce : Obligations.RawConversionsRoundOnce := by
  intro s hs raw byte c
  refine ⟨exec_cvtr2d hs, fun ch hch => ?belowFive, exec_cvtv2e hs (Nat.le_refl 5), exec_cvtc2p hs⟩
  case belowFive =>
    have hdivisor : v2e raw ch = rhaz (raw * 65536) 2596 := if_neg hch.ne
    rw [exec_cvtv2e hs hch.le, ← hdivisor]
    rfl

end Sys2Proof.Machine
end

section
/-! PROOFS. The frame decoder's refusals and the loop's use of it (`43_decoder.md`): that packed touch values
unpack (R111), the checks of DECODE (R112, R115), and stage DECODE (R135, R144). -/

namespace Sys2Proof.Machine

/-! ### Packed touch values -/

/-- Each bit of a touch value comes from one bit of its two bytes. -/
theorem unpack12_or (msb : Bool) (B C : Nat → Byte) (base i : Nat) :
    unpack12 msb (fun k => B k ||| C k) base i = unpack12 msb B base i ||| unpack12 msb C base i := by
  unfold unpack12
  cases msb <;> cases i % 2 == 0 <;> dsimp only <;>
    simp only [BitVec.setWidth_or, BitVec.shiftLeft_or_distrib, BitVec.ushiftRight_or_distrib,
      BitVec.and_or_distrib_right] <;> ac_rfl

theorem unpack12_zero (msb : Bool) (base i : Nat) : unpack12 msb (fun _ => 0) base i = 0 := by
  unfold unpack12
  dsimp only
  cases msb <;> cases i % 2 == 0 <;> rfl

/-- The fragments of value `i` alone, each at its byte (R111). -/
def placedFragments (msb : Bool) (i : Nat) (v : BitVec 12) (k : Nat) : Byte :=
  if k = 3 * i / 2 then (packFragments msb i v).1
  else if k = 3 * i / 2 + 1 then (packFragments msb i v).2
  else 0

theorem packFrom_cons (msb : Bool) (v : BitVec 12) (vals : List (BitVec 12)) (i : Nat) (B : Nat → Byte) :
    packFrom msb (v :: vals) i B = packFrom msb vals (i + 1) fun k => B k ||| placedFragments msb i v k := by
  refine congrArg (packFrom msb vals (i + 1)) (funext fun k => ?_)
  unfold placedFragments
  split
  · rfl
  · split
    · rfl
    · exact BitVec.or_zero.symm

/-- The fragments of a value as numbers (R111). -/
theorem packFragments_toNat (msb : Bool) (i : Nat) (v : BitVec 12) :
    ((packFragments msb i v).1.toNat, (packFragments msb i v).2.toNat) =
      match msb, decide (i % 2 = 0) with
      | false, true => (v.toNat % 256, v.toNat / 256)
      | false, false => (16 * (v.toNat % 16), v.toNat / 16)
      | true, true => (v.toNat / 16, 16 * (v.toNat % 16))
      | true, false => (v.toNat / 256, v.toNat % 256) := by
  have hv := v.isLt
  unfold packFragments
  rw [beq_eq_decide]
  cases msb <;> cases decide (i % 2 = 0) <;>
    simp [Nat.shiftRight_eq_div_pow, Nat.shiftLeft_eq] <;> omega

theorem placedFragments_first (msb : Bool) (i : Nat) (v : BitVec 12) :
    placedFragments msb i v (3 * i / 2) = (packFragments msb i v).1 := if_pos rfl

theorem placedFragments_second (msb : Bool) (i : Nat) (v : BitVec 12) :
    placedFragments msb i v (3 * i / 2 + 1) = (packFragments msb i v).2 :=
  (if_neg (Nat.succ_ne_self _)).trans (if_pos rfl)

theorem placedFragments_elsewhere {msb : Bool} {i k : Nat} {v : BitVec 12} (h1 : k ≠ 3 * i / 2)
    (h2 : k ≠ 3 * i / 2 + 1) : placedFragments msb i v k = 0 :=
  (if_neg h1).trans (if_neg h2)

/-- A value's own fragments hold it. -/
theorem unpack12_placedFragments_self (msb : Bool) (i : Nat) (v : BitVec 12) :
    unpack12 msb (placedFragments msb i v) 0 i = v := by
  have hnumbers := packFragments_toNat msb i v
  apply BitVec.eq_of_toNat_eq
  rw [unpack12_toNat]
  unfold touchValue
  dsimp only
  rw [Nat.zero_add, placedFragments_first, placedFragments_second]
  generalize decide (i % 2 = 0) = even at hnumbers ⊢
  cases msb <;> cases even <;> obtain ⟨hfirst, hsecond⟩ := Prod.mk.inj hnumbers <;> dsimp only <;> omega

/-- They leave at 0 the half of a byte that a neighbour shares with them. -/
theorem unpack12_placedFragments_of_ne (msb : Bool) {i j : Nat} (v : BitVec 12) (h : i ≠ j) :
    unpack12 msb (placedFragments msb i v) 0 j = 0 := by
  have hnumbers := packFragments_toNat msb i v
  have hv := v.isLt
  apply BitVec.eq_of_toNat_eq
  rw [unpack12_toNat]
  unfold touchValue
  dsimp only
  rw [Nat.zero_add]
  by_cases hnext : i % 2 = 0 ∧ j = i + 1
  · obtain ⟨hi, rfl⟩ := hnext
    rw [decide_eq_true hi] at hnumbers
    rw [decide_eq_false (by omega : ¬ (i + 1) % 2 = 0), show 3 * (i + 1) / 2 = 3 * i / 2 + 1 by omega,
      placedFragments_second, placedFragments_elsewhere (by omega) (by omega)]
    cases msb <;> obtain ⟨-, hsecond⟩ := Prod.mk.inj hnumbers <;> dsimp only <;> rw [hsecond] <;> bv_omega
  by_cases hprevious : j % 2 = 0 ∧ i = j + 1
  · obtain ⟨hj, rfl⟩ := hprevious
    rw [decide_eq_false (by omega)] at hnumbers
    rw [decide_eq_true hj, show 3 * j / 2 + 1 = 3 * (j + 1) / 2 by omega,
      placedFragments_first, placedFragments_elsewhere (by omega) (by omega)]
    cases msb <;> obtain ⟨hfirst, -⟩ := Prod.mk.inj hnumbers <;> dsimp only <;> rw [hfirst] <;> bv_omega
  rw [placedFragments_elsewhere (by omega) (by omega), placedFragments_elsewhere (by omega) (by omega)]
  cases msb <;> cases decide (j % 2 = 0) <;> rfl

/-- Packing ORs each value into its own place and into no other. -/
theorem unpack12_packFrom (msb : Bool) (vals : List (BitVec 12)) (i : Nat) (B : Nat → Byte) (j : Nat) :
    unpack12 msb (packFrom msb vals i B) 0 j =
      unpack12 msb B 0 j ||| if i ≤ j then vals.getD (j - i) 0 else 0 := by
  induction vals generalizing i B with
  | nil => simp [packFrom]
  | cons v vals ih =>
    rw [packFrom_cons, ih, unpack12_or, BitVec.or_assoc]
    congr 1
    rcases Nat.lt_trichotomy i j with hij | rfl | hij
    · rw [unpack12_placedFragments_of_ne msb v hij.ne, if_pos (by omega : i + 1 ≤ j), if_pos hij.le,
        show j - i = j - (i + 1) + 1 by omega, List.getD_cons_succ]
      exact BitVec.zero_or
    · rw [unpack12_placedFragments_self, if_neg (by omega), if_pos (by omega), Nat.sub_self,
        List.getD_cons_zero]
      exact BitVec.or_zero
    · rw [unpack12_placedFragments_of_ne msb v hij.ne', if_neg (by omega), if_neg (by omega)]
      exact BitVec.or_zero

/-- Settles O22: from bytes at 0, each place holds its value and nothing else. -/
theorem touchPackUnpack : Obligations.TouchPackUnpack := by
  intro msb vals i hi
  calc unpack12 msb (pack12 msb vals) 0 i
    _ = 0 ||| if 0 ≤ i then vals.getD (i - 0) 0 else 0 := by rw [pack12, unpack12_packFrom, unpack12_zero]
    _ = vals.getD i 0 := BitVec.zero_or
    _ = vals[i] := List.getD_eq_getElem _ _ hi

/-! ### The checks of DECODE -/

/-- Settles O9: lengths beyond the buffers fail the operand check, which comes first; a short frame passes it
and fails the next one. -/
theorem shortDecodeRefused : Obligations.ShortDecodeRefused := by
  intro s hs
  refine ⟨fun hbeyond => ?operand, fun hlen hcount hshort => ?short⟩
  case operand =>
    have hcheck : (decide (s.rxLen.toNat ≤ Config.rxMax) && decide (touchCount s ≤ Config.touchMax)) =
        false := by
      rw [Bool.and_eq_false_iff, decide_eq_false_iff_not, decide_eq_false_iff_not, Nat.not_le, Nat.not_le]
      exact hbeyond
    exact operandCheck_refused hs hcheck
  case short =>
    have hlen' : s.rxLen.toNat ≤ Config.rxMax := hlen
    have hcount' : touchCount s ≤ Config.touchMax := hcount
    have hneed : ¬ need s ≤ s.rxLen.toNat := Nat.not_le_of_lt hshort
    show execDecode s = _
    rw [execDecode, dataCheck_passes hs, decide_eq_true hlen', decide_eq_true hcount', Bool.and_self,
      require_true, decide_eq_false hneed, require_false]

/-! ### Stage DECODE -/

theorem stageDecode_invalid {s : State} (hv : receiveValid s = false) :
    stageDecode s = afterDecode { setValid false s with
      ckerrCnt := s.ckerrCnt + 1, ip := s.ip ||| ipCkerr } := by
  rw [stageDecode, if_pos hv, hv]

theorem stageDecode_short {s : State} (hv : receiveValid s = true) (hshort : s.rxLen.toNat < need s) :
    stageDecode s = fatal .unpack .decode (setValid true s) := by
  rw [stageDecode, hv, if_neg nofun, if_pos hshort]

theorem stageDecode_decoded {s : State} (hv : receiveValid s = true) (hneed : need s ≤ s.rxLen.toNat) :
    stageDecode s = afterDecode (decodeFrame (setValid true s)) := by
  rw [stageDecode, hv, if_neg nofun, if_neg (Nat.not_lt_of_le hneed)]

theorem lateCheck_eq (s : State) :
    lateCheck s = { s with status := { s.status with
      late := s.status.late || decide (s.cfg.period ≠ 0 ∧ deadline s < s.env.now.toNat) } } := by
  rw [lateCheck]
  split
  · next h => rw [decide_eq_true h, Bool.or_true]
  · next h => rw [decide_eq_false h, Bool.or_false]

/-- The loop's own cycle goes on to PACE, with the late check (R135). -/
theorem afterDecode_inLoop {s : State} (ho : s.oneShot = false) :
    afterDecode s = { s with status := { s.status with
      stage := .pace
      late := s.status.late || decide (s.cfg.period ≠ 0 ∧ deadline s < s.env.now.toNat) } } :=
  (if_neg (Bool.eq_false_iff.mp ho)).trans (lateCheck_eq (setStage .pace s))

/-- A CYCLE1 cycle ends here, and its command with it (R144). -/
theorem afterDecode_inCycle1 {s : State} (ho : s.oneShot = true) : afterDecode s = endCycle1 s :=
  if_pos ho

/-- A fatal error of the loop's own cycle completes no command (R147). -/
theorem fatal_inLoop {c : ErrCode} {g : Stage} {s : State} (hx : s.xfer = .none) (ho : s.oneShot = false) :
    fatal c g s = { s with
      xfer := .none
      status := { s.status with state := .stopped, link := false, stopReq := false, stage := .boundary }
      err := { s.err with fatalCode := c, fatalStage := g }
      ip := s.ip ||| ipFatal } := by
  simp [fatal, commandStarted, hx, ho]

/-- A fatal error of a CYCLE1 cycle completes the command with its code (R147). -/
theorem fatal_inCycle1 {c : ErrCode} {g : Stage} {s : State} (ho : s.oneShot = true) :
    fatal c g s = complete c { s with
      xfer := .none
      status := { s.status with state := .stopped, link := false, stopReq := false, stage := .boundary }
      oneShot := false
      err := { s.err with fatalCode := c, fatalStage := g }
      ip := s.ip ||| ipFatal } := by
  simp [fatal, commandStarted, ho]

theorem step_decode {rest : List Turn} {s : State} (h : AtStage .decode rest s) :
    step s = .next (stageDecode (scheduled rest s)) := by
  have hstage : (scheduled rest s).status.stage = .decode := h.stage
  rw [step_stage h, stageStep, hstage]

/-- Settles O39: each of the stage's three cases, followed by PACE or, for the short frame, by the fatal
entry. -/
theorem decodeStageInRunning : Obligations.DecodeStageInRunning := by
  intro s rest h ho hlen late u
  have hx : s.xfer = .none := by obtain ⟨-, hx, -⟩ := h; exact hx
  have hvalid : receiveValid u = true ↔ Validates (memRead s.rxbuf) s.rxLen.toNat :=
    receiveValid_iff (s := u) hlen
  rw [step_decode h]
  refine ⟨fun hv => ?invalid, fun hv hshort => ?short, fun hv hneed => ?decoded⟩
  case invalid =>
    rw [stageDecode_invalid (Bool.eq_false_iff.mpr (mt hvalid.mp hv)), afterDecode_inLoop]
    · rfl
    · exact ho
  case short =>
    rw [stageDecode_short (hvalid.mpr hv) hshort, fatal_inLoop]
    · rfl
    · exact hx
    · exact ho
  case decoded =>
    rw [stageDecode_decoded (hvalid.mpr hv) hneed, afterDecode_inLoop]
    · rfl
    · exact ho

/-- Settles O40: the same three cases, each followed by the end of the command. -/
theorem decodeStageEndsCycle1 : Obligations.DecodeStageEndsCycle1 := by
  intro s rest h ho hlen u finished
  have hvalid : receiveValid u = true ↔ Validates (memRead s.rxbuf) s.rxLen.toNat :=
    receiveValid_iff (s := u) hlen
  rw [step_decode h]
  refine ⟨fun hv => ?invalid, fun hv hshort => ?short, fun hv hneed => ?decoded⟩
  case invalid =>
    rw [stageDecode_invalid (Bool.eq_false_iff.mpr (mt hvalid.mp hv)), afterDecode_inCycle1]
    · rfl
    · exact ho
  case short =>
    rw [stageDecode_short (hvalid.mpr hv) hshort, fatal_inCycle1]
    · rfl
    · exact ho
  case decoded =>
    rw [stageDecode_decoded (hvalid.mpr hv) hneed, afterDecode_inCycle1]
    · rfl
    · exact ho

end Sys2Proof.Machine
end

section
/-! PROOFS. The setpoint generators and the control law (`44_generator_control.md`): saturation to 32 bits, the
sine, the commands GEN and CTLAW, and stage CONTROL, which applies the law in the loop (R116 to R124, R132). -/

namespace Sys2Proof.Machine

/-! ### Saturation to 32 bits -/

theorem sat32_eq (v : Int) : sat32 v = max (-2147483648) (min 2147483647 v) := by
  rw [sat32, sat]; omega

theorem clips32_eq (v : Int) : clips32 v = decide (sat32 v ≠ v) := by
  rw [Bool.eq_iff_iff, clips32, bne_iff_ne, decide_eq_true_eq]

theorem anyCh_clips32 (f : Channel → Int) :
    (Six.anyCh fun ch => clips32 (f ch)) = decide (∃ ch, sat32 (f ch) ≠ f ch) := by
  rw [Bool.eq_iff_iff, Six.anyCh_iff, decide_eq_true_eq]
  exact exists_congr fun ch => by rw [clips32_eq, decide_eq_true_eq]

/-! ### The sine -/

/-- At a required angle the value is a required one, and any other value is brought within the bounds
(R118). -/
theorem sinq_bounds (a : Word) : -65536 ≤ sinq a ∧ sinq a ≤ 65536 := by
  rw [sinq, sat]
  split_ifs <;> omega

/-! ### The generators -/

/-- The number of a generator (`10_state.md` R22). -/
def Generator.bits (g : Generator) : BitVec 2 :=
  match g with
  | .direct => 0
  | .wave => 1
  | .pointer => 2
  | .reserved => 3

theorem ctrlGen_of_bits {s : State} (g : Generator) (h : s.cfg.ctrl.extractLsb' 2 2 = g.bits) :
    ctrlGen s = g := by
  rw [ctrlGen, h]
  cases g <;> rfl

/-- Adding the phase as a number and then wrapping gives the wave's angle (R117). -/
theorem waveAngle_eq (s : State) (ch : Channel) :
    waveAngle s ch = BitVec.ofNat 32 (s.phase.toNat + ch.val * 683565276) := by
  rw [BitVec.ofNat_add, BitVec.ofNat_toNat, BitVec.setWidth_eq]
  rfl

/-- The negation of channel 5 as a factor (R117, R119). -/
theorem negateFive_eq_mul (ch : Channel) (v : Int) :
    (if ch = 5 then -v else v) = (if ch = 5 then -1 else 1) * v := by
  split
  · rw [neg_one_mul]
  · rw [one_mul]

theorem waveTarget_eq (s : State) (ch : Channel) :
    waveTarget s ch = (if ch = 5 then -1 else 1) *
      (rhaz (s.cfg.sinAmp.toInt * sinq (BitVec.ofNat 32 (s.phase.toNat + ch.val * 683565276))) 65536 +
        s.cfg.sinOff.toInt) := by
  rw [← waveAngle_eq, ← negateFive_eq_mul]
  rfl

theorem pointerTarget_eq (s : State) (ch : Channel) :
    pointerTarget s ch = (if ch = 5 then -1 else 1) * sat32 (pointerQuotient s) := by
  rw [← negateFive_eq_mul]
  rfl

theorem gen_direct {s : State} (h : ctrlGen s = .direct) : gen s = { s with tgt := s.cfg.setpoint } := by
  rw [gen, h]

theorem gen_wave {s : State} (h : ctrlGen s = .wave) :
    gen s = rangeEvent (decide (∃ ch, sat32 (waveTarget s ch) ≠ waveTarget s ch))
      { s with tgt := Six.ofFn fun ch => wrap32 (sat32 (waveTarget s ch)) } := by
  rw [gen, h, ← anyCh_clips32]

theorem gen_pointer {s : State} (h : ctrlGen s = .pointer) :
    gen s = rangeEvent
      (decide (sat32 (pointerQuotient s) ≠ pointerQuotient s ∨
        ∃ ch, sat32 (pointerTarget s ch) ≠ pointerTarget s ch))
      { s with tgt := Six.ofFn fun ch => wrap32 (sat32 (pointerTarget s ch)) } := by
  rw [gen, h, Bool.decide_or, ← anyCh_clips32, ← clips32_eq]

/-- A generator writes `TGT` and the range flags alone (R116). -/
theorem gen_eq (s : State) :
    gen s = { s with tgt := (gen s).tgt, status := (gen s).status, ip := (gen s).ip } := by
  rw [gen]
  cases ctrlGen s with
  | direct => rfl
  | wave | pointer => rw [rangeEvent_tgt]; exact rangeEvent_eq _ _
  | reserved => rfl

/-! ### The command GEN -/

/-- With a generator that may run GEN completes with its target vector (R123). -/
theorem exec_gen {s : State} (hs : s.status.state ≠ .running) (hready : generatorReady s = true) :
    exec .gen s = .next (complete .none (gen s)) := by
  show execGen s = _
  rw [execGen, dataCheck_passes hs, hready, require_true, done_eq]

/-- Settles O23: the sine's requirements, and one equation of `gen` for each generator. -/
theorem genWritesTarget : Obligations.GenWritesTarget := by
  refine ⟨⟨rfl, rfl, rfl, rfl, sinq_bounds⟩, ?_⟩
  intro s hs clamp wave quotient pointer
  have hclamp : sat32 = clamp := funext sat32_eq
  have hwave : waveTarget s = wave := funext (waveTarget_eq s)
  have hpointer : pointerTarget s = pointer := by
    funext ch
    rw [pointerTarget_eq, hclamp]
    rfl
  refine ⟨fun hbits => ?direct, fun hbits => ?wave, fun hbits hsens => ?pointer⟩
  case direct =>
    have hgen : ctrlGen s = .direct := ctrlGen_of_bits .direct hbits
    rw [exec_gen hs (by rw [generatorReady, hgen]), gen_direct hgen]
  case wave =>
    have hgen : ctrlGen s = .wave := ctrlGen_of_bits .wave hbits
    refine ⟨gen s, exec_gen hs (by rw [generatorReady, hgen]), ?flags, fun ch => ?target, gen_eq s⟩
    case flags =>
      rw [gen_wave hgen, hclamp, hwave]
      exact rangeEvent_flags _ _
    case target =>
      rw [gen_wave hgen, rangeEvent_tgt, Six.get_ofFn, hclamp, hwave]
      rfl
  case pointer =>
    have hgen : ctrlGen s = .pointer := ctrlGen_of_bits .pointer hbits
    have hready : generatorReady s = true := by
      rw [generatorReady, hgen]
      exact bne_iff_ne.mpr hsens
    refine ⟨gen s, exec_gen hs hready, ?flags, fun ch => ?target, gen_eq s⟩
    case flags =>
      rw [gen_pointer hgen, hclamp, hpointer]
      exact rangeEvent_flags _ _
    case target =>
      rw [gen_pointer hgen, rangeEvent_tgt, Six.get_ofFn, hclamp, hpointer]
      rfl

/-! ### The control law and the command CTLAW -/

theorem ctlaw_eq_rangeEvent (s : State) :
    ctlaw s = rangeEvent (decide (∃ ch, sat32 (lawCommand s ch) ≠ lawCommand s ch))
      { s with cmdv := Six.ofFn fun ch => wrap32 (sat32 (lawCommand s ch)) } := by
  rw [ctlaw, anyCh_clips32]

/-- The law writes `CMDV` and the range flags alone (R121). -/
theorem ctlaw_eq (s : State) :
    ctlaw s = { s with cmdv := (ctlaw s).cmdv, status := (ctlaw s).status, ip := (ctlaw s).ip } := by
  rw [ctlaw, rangeEvent_cmdv]
  exact rangeEvent_eq _ _

theorem exec_ctlaw {s : State} (hs : s.status.state ≠ .running) :
    exec .ctlaw s = .next (complete .none (ctlaw s)) :=
  dataCheck_passes hs

/-- Settles O24: past its check CTLAW applies the law. -/
theorem ctlawWritesCommand : Obligations.CtlawWritesCommand := by
  intro s hs clamp u
  have hclamp : sat32 = clamp := funext sat32_eq
  have hlaw : lawCommand s = u := rfl
  refine ⟨ctlaw s, exec_ctlaw hs, ?flags, fun ch => ?command, ctlaw_eq s⟩
  case flags =>
    rw [ctlaw_eq_rangeEvent, hclamp, hlaw]
    exact rangeEvent_flags _ _
  case command =>
    rw [ctlaw_eq_rangeEvent, rangeEvent_cmdv, Six.get_ofFn, hclamp, hlaw]
    rfl

theorem rhaz_zero (d : Int) : rhaz 0 d = 0 := by
  rw [rhaz, zero_mul, Int.sign_zero, zero_mul]

/-- On a channel at its target and at rest the error, and with it the law's command, is zero (R122). -/
theorem lawCommand_eq_zero {s : State} {ch : Channel} (hpos : s.tgt.get ch = s.fb.pos.get ch)
    (hvel : s.fb.vel.get ch = 0) : lawCommand s ch = 0 := by
  rw [lawCommand, hpos, hvel, sub_self, mul_zero, rhaz_zero]
  rfl

/-- Settles O25: zero on every channel is a command that no saturation changes. -/
theorem ctlawZeroAtTarget : Obligations.CtlawZeroAtTarget := by
  intro s hpos hvel
  have hlaw : lawCommand s = fun _ => 0 := funext fun ch => lawCommand_eq_zero (hpos ch) (hvel ch)
  rw [ctlaw, hlaw]
  rfl

/-! ### Stage CONTROL -/

/-- The law does not see the sequencer's stage, nor write it. -/
theorem ctlaw_setStage (g : Stage) (s : State) : ctlaw (setStage g s) = setStage g (ctlaw s) := by
  have hlaw : lawCommand (setStage g s) = lawCommand s := rfl
  rw [ctlaw, ctlaw, hlaw]
  cases Six.anyCh fun ch => clips32 (lawCommand s ch) <;> rfl

theorem step_control {rest : List Turn} {s : State} (h : AtStage .control rest s) :
    step s = .next (stageControl (scheduled rest s)) := by
  have hstage : (scheduled rest s).status.stage = .control := h.stage
  rw [step_stage h, stageStep, hstage]

theorem stageControl_open {s : State} (h : ctrlMode s = .pos ∨ ctrlMode s = .voltOl) :
    stageControl s = setStage .encode { s with cmdv := s.tgt } := by
  rcases h with h | h <;> rw [stageControl, h]

theorem stageControl_raw {s : State} (h : ctrlMode s = .raw) : stageControl s = setStage .encode s := by
  rw [stageControl, h]

theorem stageControl_closed {s : State} (h : ctrlMode s = .voltCl) :
    stageControl s = setStage .encode (if receiveValid s then ctlaw s else s) := by
  rw [stageControl, h]

/-- Settles O35: the vector of each mode; in the closed loop the last telemetry decides. -/
theorem controlStage : Obligations.ControlStage := by
  intro s rest h held
  rw [step_control h]
  refine ⟨fun hm => ?openLoop, fun hm => ?raw, fun hm hlen => ?closedLoop⟩
  case openLoop =>
    have hmode := hm.imp (ctrlMode_of_bits .pos) (ctrlMode_of_bits .voltOl)
    exact congrArg _ (stageControl_open (s := scheduled rest s) hmode)
  case raw =>
    have hmode := ctrlMode_of_bits .raw hm
    exact congrArg _ (stageControl_raw (s := scheduled rest s) hmode)
  case closedLoop =>
    have hmode : ctrlMode (scheduled rest s) = .voltCl := ctrlMode_of_bits .voltCl hm
    have hvalid : receiveValid (scheduled rest s) = true ↔
        Validates (memRead s.rxbuf) s.rxLen.toNat := receiveValid_iff (s := scheduled rest s) hlen
    rw [stageControl_closed hmode]
    refine ⟨fun hv => ?applied, fun hv => ?held⟩
    case applied =>
      rw [if_pos (hvalid.mpr hv), ← ctlaw_setStage]
      rfl
    case held =>
      rw [if_neg (mt hvalid.mp hv)]
      rfl

end Sys2Proof.Machine
end

section
/-! PROOFS. The lifecycle commands (`45_loop.md` R138 to R144): the first steps of INIT, START, STOP, RESET
and CYCLE1. -/

namespace Sys2Proof.Machine

/-- A check of the loop state that holds goes on. -/
theorem stateCheck_passes {g : LoopState} {s : State} {k : Outcome} (h : s.status.state = g) :
    require (s.status.state == g) .state s k = k := by
  rw [beq_iff_eq.mpr h, require_true]

/-- INIT in IDLE requests OPEN (R138). -/
theorem exec_init {s : State} (hs : s.status.state = .idle) : exec .init s = .next (request .opening s) :=
  stateCheck_passes hs

/-- CYCLE1 under a configuration that can run enters SAMPLE (R144). -/
theorem exec_cycle1 {s : State} (hs : s.status.state = .initialized) (hc : ¬ Cycle1Refused s) :
    exec .cycle1 s = .next (setStage .sample { s with oneShot := true }) := by
  rw [cycle1Refused_iff, Bool.not_eq_false] at hc
  show execCycle1 s = _
  rw [execCycle1, stateCheck_passes hs, hc, require_true]

/-- START under a configuration that can run enters RUNNING (R140). -/
theorem exec_start {s : State} (hs : s.status.state = .initialized) (hc : ¬ ConfigRefused s) :
    exec .start s = .next (complete .none (started s)) := by
  rw [configRefused_iff, Bool.not_eq_false] at hc
  show execStart s = _
  rw [execStart, stateCheck_passes hs, hc, require_true]
  rfl

/-- Settles O26: past their checks both commands are their first steps. -/
theorem initAndCycle1Start : Obligations.InitAndCycle1Start :=
  fun _ => ⟨exec_init, exec_cycle1⟩

/-- Settles O28: past its checks START completes in RUNNING. -/
theorem startEntersRunning : Obligations.StartEntersRunning :=
  fun _ => exec_start

/-- STOP in RUNNING leaves its request to the next BOUNDARY (R141). -/
theorem exec_stop_running {s : State} (hs : s.status.state = .running) :
    exec .stop s = .next (complete .none { s with status := { s.status with stopReq := true } }) := by
  show execStop s = _
  rw [execStop, allowsStop_eq_allowedIn, hs, if_pos rfl]
  rfl

/-- STOP in INITIALIZED requests CLOSE (R141). -/
theorem exec_stop_initialized {s : State} (hs : s.status.state = .initialized) :
    exec .stop s = .next (requestClose .stopped s) := by
  show execStop s = _
  rw [execStop, allowsStop_eq_allowedIn, hs, if_neg nofun]
  rfl

/-- Settles O29: the branch of STOP in each of its two states. -/
theorem stopRequests : Obligations.StopRequests :=
  fun _ => ⟨exec_stop_running, exec_stop_initialized⟩

/-- RESET in INITIALIZED requests CLOSE (R143). -/
theorem exec_reset_initialized {s : State} (hs : s.status.state = .initialized) :
    exec .reset s = .next (requestClose .idle s) := by
  show execReset s = _
  rw [execReset, dataCheck_passes (by rw [hs]; nofun), if_pos hs]

/-- RESET without a link is the reset clear (R143). -/
theorem exec_reset_unlinked {s : State} (hs : s.status.state = .idle ∨ s.status.state = .stopped) :
    exec .reset s = .next (complete .none (resetClear s)) := by
  have hrun : s.status.state ≠ .running := by rcases hs with hs | hs <;> rw [hs] <;> nofun
  have hinit : s.status.state ≠ .initialized := by rcases hs with hs | hs <;> rw [hs] <;> nofun
  show execReset s = _
  rw [execReset, dataCheck_passes hrun, if_neg hinit, done_eq]

/-- What RESET leaves: the reset state, but for the host's registers, the surroundings and the completion
(R76, R142). -/
theorem complete_resetClear (s : State) :
    complete .none (resetClear s) =
      { State.reset with cfg := s.cfg, env := s.env, ip := 0b00001 } := by
  have hip : (0 ||| ipCmdDone : BitVec 5) = 0b00001 := rfl
  rw [← hip]
  rfl

/-- Settles O30: the branch of RESET in each state that allows it. -/
theorem resetClears : Obligations.ResetClears := by
  intro s
  refine ⟨fun hs => ?clear, exec_reset_initialized⟩
  case clear => rw [exec_reset_unlinked hs, complete_resetClear]

end Sys2Proof.Machine
end

section
/-! PROOFS. The loop's stages BOUNDARY, GENERATE, EXCHANGE and PACE, and the Transport's answers to EXCHANGE and
CLOSE (`45_loop.md` R128 to R136). -/

namespace Sys2Proof.Machine

/-! ### Stages BOUNDARY and PACE -/

theorem stageStep_boundary {s : State} (h : s.status.stage = .boundary) :
    stageStep s = .next (stageBoundary s) := by
  rw [stageStep, h]

theorem stageStep_pace {s : State} (h : s.status.stage = .pace) :
    stageStep s = .next (stagePace s) := by
  rw [stageStep, h]

theorem stageBoundary_of_stop {s : State} (h : s.status.stopReq = true) :
    stageBoundary s = requestClose .stopped s :=
  if_pos h

theorem stageBoundary_of_go {s : State} (h : s.status.stopReq = false) :
    stageBoundary s = setStage .sample s :=
  if_neg (Bool.eq_false_iff.mp h)

theorem stagePace_waits {s : State} (h : s.env.now.toNat < deadline s) : stagePace s = s :=
  if_neg (Nat.not_le_of_lt h)

theorem stagePace_ends {s : State} (h : deadline s ≤ s.env.now.toNat) :
    stagePace s = setStage .boundary { s with
      cycleCnt := s.cycleCnt + 1, ip := s.ip ||| ipCycleDone } :=
  if_pos h

/-- Settles O31: each stage has two branches, which its equations name. -/
theorem boundaryAndPaceStages : Obligations.BoundaryAndPaceStages := by
  intro s rest
  refine ⟨fun h => ?boundary, fun h => ?pace⟩
  case boundary =>
    rw [step_stage h, stageStep_boundary (s := scheduled rest s) h.stage]
    exact ⟨fun hq => congrArg _ (stageBoundary_of_stop (s := scheduled rest s) hq),
      fun hq => congrArg _ (stageBoundary_of_go (s := scheduled rest s) hq)⟩
  case pace =>
    rw [step_stage h, stageStep_pace (s := scheduled rest s) h.stage]
    exact ⟨fun hnow => congrArg _ (stagePace_waits (s := scheduled rest s) hnow),
      fun hnow => congrArg _ (stagePace_ends (s := scheduled rest s) hnow)⟩

/-! ### Stage GENERATE -/

theorem stageStep_generate {s : State} (h : s.status.stage = .generate) :
    stageStep s = stageGenerate s := by
  rw [stageStep, h]

theorem stageGenerate_raw {s : State} (hm : ctrlMode s = .raw) :
    stageGenerate s = .next (setStage .control s) :=
  if_pos hm

theorem stageGenerate_gen {s : State} (hm : ctrlMode s ≠ .raw) (hready : generatorReady s = true) :
    stageGenerate s = .next (setStage .control (gen s)) := by
  rw [stageGenerate, if_neg hm, if_pos hready]

/-- Settles O34: outside RAW mode a configuration that can run has a generator that may run. -/
theorem generateStage : Obligations.GenerateStage := by
  intro s rest h
  rw [step_stage h, stageStep_generate (s := scheduled rest s) h.stage]
  refine ⟨fun hm => ?raw, fun hm hc => ?generated⟩
  case raw => exact stageGenerate_raw (s := scheduled rest s) (ctrlMode_raw_iff.mpr hm)
  case generated =>
    have hmode : ctrlMode (scheduled rest s) ≠ .raw := mt ctrlMode_raw_iff.mp hm
    have hconfig : configOk s = true := by rwa [configRefused_iff, Bool.not_eq_false] at hc
    have hready : generatorReady (scheduled rest s) = true := generatorReady_of_configOk hconfig hmode
    rw [stageGenerate_gen hmode hready]
    refine ⟨rfl, fun hdirect => ?direct⟩
    case direct => rw [gen_direct (s := scheduled rest s) (ctrlGen_of_bits .direct hdirect)]; rfl

/-! ### Stage EXCHANGE and its answer -/

theorem stageStep_exchange {s : State} (h : s.status.stage = .exchange) :
    stageStep s = stageExchange s := by
  rw [stageStep, h]

theorem stageExchange_fits {s : State} (h : s.txLen.toNat ≤ Config.txMax) :
    stageExchange s = .next (request (.exchange (bytesFrom (txByte s) 0 s.txLen.toNat)) s) :=
  if_pos h

/-- Settles O37: the bytes handed over lie within `TXBUF` and are read as they stand there. -/
theorem exchangeRequest : Obligations.ExchangeRequest := by
  intro s rest h hfit
  refine ⟨bytesFrom (txByte (scheduled rest s)) 0 s.txLen.toNat, ?request, bytesFrom_length _ _ _,
    fun k hk => ?byte⟩
  case request =>
    rw [step_stage h, stageStep_exchange (s := scheduled rest s) h.stage]
    exact stageExchange_fits (s := scheduled rest s) hfit
  case byte =>
    have hlen : k < s.txLen.toNat := by rwa [bytesFrom_length] at hk
    rw [← List.getD_eq_getElem _ 0 hk, getD_bytesFrom hlen, Nat.zero_add]
    exact txByte_of_lt (s := scheduled rest s) (hlen.trans_le hfit)

theorem step_exchangeAnswer {a : Answer} {tx : List Byte} {rest : List Turn} {s : State}
    (hturn : NextTurn (.transport a) rest s) (hx : s.xfer = .exchange tx) :
    step s = .next (answerExchange a (scheduled rest s)) := by
  rw [step_transport hturn, transportTurn, scheduled_xfer, hx]

/-- While an EXCHANGE is in flight only a CYCLE1 has started (R126). -/
theorem commandStarted_exchange {tx : List Byte} {s : State} (hx : s.xfer = .exchange tx) :
    commandStarted s = s.oneShot := by
  rw [commandStarted, hx, Bool.or_false]

/-- What a fatal error writes, a completion apart (R147). -/
def stoppedBy (c : ErrCode) (g : Stage) (s : State) : State :=
  { s with
    xfer := .none
    status := { s.status with state := .stopped, link := false, stopReq := false, stage := .boundary }
    oneShot := false
    err := { s.err with fatalCode := c, fatalStage := g }
    ip := s.ip ||| ipFatal }

theorem fatal_eq (c : ErrCode) (g : Stage) (s : State) :
    fatal c g s = if commandStarted s then complete c (stoppedBy c g s) else stoppedBy c g s := rfl

/-- Settles O38: no byte of an answer of up to `RX_MAX` bytes is cut; a failure is fatal, and completes the
command that the EXCHANGE is part of, a CYCLE1. -/
theorem exchangeAnswer : Obligations.ExchangeAnswer := by
  intro s rest a tx hturn hx failed
  have hstarted : commandStarted (scheduled rest s) = s.oneShot :=
    commandStarted_exchange (s := scheduled rest s) hx
  rw [step_exchangeAnswer hturn hx]
  refine ⟨fun rx ha hlen => ?ok, fun ha ho => ?loop, fun ha ho => ?cycle1⟩
  case ok =>
    have htake : rx.take Config.rxMax = rx := List.take_of_length_le hlen
    refine ⟨memOfBytes 0 rx, ?stored, memOfBytes_wf hlen, fun k => ?byte⟩
    case stored =>
      rw [ha, answerExchange, htake]
      rfl
    case byte => rw [memRead_memOfBytes, if_pos (Nat.zero_le k), Nat.sub_zero]
  case loop =>
    rw [ha, answerExchange, fatal_eq, hstarted, ho]
    rfl
  case cycle1 =>
    rw [ha, answerExchange, fatal_eq, hstarted, ho]
    rfl

/-! ### The answer to CLOSE -/

theorem step_closeAnswer {a : Answer} {rest : List Turn} {s : State}
    (hturn : NextTurn (.transport a) rest s) (hx : s.xfer = .closing) :
    step s = .next (answerClose a (scheduled rest s)) := by
  rw [step_transport hturn, transportTurn, scheduled_xfer, hx]

theorem answerClose_reset {a : Answer} {s : State} (h : s.afterClose = .idle) :
    answerClose a s = complete .none (resetClear s) := by
  rw [answerClose.eq_def, h]

theorem answerClose_ok {rx : List Byte} {s : State} (h : s.afterClose = .stopped) :
    answerClose (.ok rx) s = closeDone s := by
  rw [answerClose, h]

theorem answerClose_fail {s : State} (h : s.afterClose = .stopped) :
    answerClose .fail s = fatal .closeFail .boundary s := by
  rw [answerClose, h]

/-- A CLOSE in INITIALIZED is that of a started command (R126, R141, R143). -/
theorem commandStarted_closing {s : State} (hx : s.xfer = .closing) (hs : s.status.state = .initialized) :
    commandStarted s = true := by
  rw [commandStarted, hx, hs]
  exact Bool.or_true _

/-- `s` with the link closed and the loop in STOPPED (R129). -/
def linkClosed (s : State) : State :=
  { s with
    xfer := .none
    status := { s.status with link := false, stopReq := false, stage := .boundary, state := .stopped } }

theorem closeDone_eq (s : State) :
    closeDone s = if commandStarted s then complete .none (linkClosed s) else linkClosed s := rfl

/-- Settles O41: a RESET clears the block; else the answer decides, and the state says whether a STOP made
the request, which then completes. -/
theorem closeAnswer : Obligations.CloseAnswer := by
  intro s rest a hturn hx ho u halted ended failed
  have hdone := closeDone_eq u
  have hfatal := fatal_eq .closeFail .boundary u
  have hfailed : stoppedBy .closeFail .boundary u = failed :=
    congrArg (fun b : Bool => { failed with oneShot := b }) ho.symm
  rw [step_closeAnswer hturn hx]
  refine ⟨fun hidle => ?reset, fun hstop hrun => ?loop, fun hstop hinit => ?command⟩
  case reset => rw [answerClose_reset (s := u) hidle, complete_resetClear]; rfl
  case loop =>
    have hstarted : commandStarted u = false :=
      commandStarted_running (s := u) ho (by rw [scheduled_xfer, hx]; nofun) hrun
    rw [hstarted] at hdone hfatal
    refine ⟨fun rx ha => ?ok, fun ha => ?fail⟩
    case ok => rw [ha, answerClose_ok (s := u) hstop, hdone]; rfl
    case fail => rw [ha, answerClose_fail (s := u) hstop, hfatal, hfailed]; rfl
  case command =>
    have hstarted : commandStarted u = true := commandStarted_closing (s := u) hx hinit
    rw [hstarted] at hdone hfatal
    refine ⟨fun rx ha => ?ok, fun ha => ?fail⟩
    case ok => rw [ha, answerClose_ok (s := u) hstop, hdone]; rfl
    case fail => rw [ha, answerClose_fail (s := u) hstop, hfatal, hfailed]; rfl

end Sys2Proof.Machine
end

section
/-! PROOFS. What the stages SAMPLE to ENCODE leave alone, and the run of a CYCLE1 command from its first step to
its completion (`45_loop.md` R127, R130 to R135, R144). -/

namespace Sys2Proof.Machine

/-! ### The stages that hand over -/

/-- What the work of the stages SAMPLE to ENCODE leaves alone: the host's registers, the loop state, the
request, the feedback, the counters and the surroundings. -/
structure StageWork (s t : State) : Prop where
  cfg : t.cfg = s.cfg := by simp
  state : t.status.state = s.status.state := by simp
  xfer : t.xfer = s.xfer := by simp
  oneShot : t.oneShot = s.oneShot := by simp
  fb : t.fb = s.fb := by simp
  seq : t.seq = s.seq := by simp
  cycleCnt : t.cycleCnt = s.cycleCnt := by simp
  ckerrCnt : t.ckerrCnt = s.ckerrCnt := by simp
  env : t.env = s.env := by simp

/-- A stage did its work in `s` and handed over to the stage `g` in `t`. -/
structure HandedOver (s : State) (g : Stage) (t : State) : Prop extends StageWork s t where
  stage : t.status.stage = g

theorem StageWork.handedOver {s u : State} (h : StageWork s u) (g : Stage) :
    HandedOver s g (setStage g u) :=
  { h with stage := rfl }

theorem gen_stageWork (s : State) : StageWork s (gen s) := by
  unfold gen
  cases ctrlGen s <;> exact {}

theorem ctlaw_stageWork (s : State) : StageWork s (ctlaw s) := by
  unfold ctlaw
  exact {}

theorem buildMotion_stageWork (mode : Byte) (conv : Int → Int) (range : Int → Bool) (s : State) :
    StageWork s (buildMotion mode conv range s) := by
  unfold buildMotion
  exact {}

/-- The stages that a cycle runs before its request, each with the stage after it (R127). -/
inductive NextStage : Stage → Stage → Prop
  | sample : NextStage .sample .generate
  | generate : NextStage .generate .control
  | control : NextStage .control .encode
  | encode : NextStage .encode .exchange

theorem stageControl_handedOver (s : State) : HandedOver s .encode (stageControl s) := by
  unfold stageControl
  refine StageWork.handedOver ?_ .encode
  split
  · exact {}
  · exact {}
  · split
    · exact ctlaw_stageWork s
    · exact {}
  · exact {}

theorem stageEncode_handedOver (s : State) : AllNext (HandedOver s .exchange) (stageEncode s) := by
  unfold stageEncode
  cases ctrlMode s with
  | pos | voltOl | voltCl => exact .next ((buildMotion_stageWork _ _ _ s).handedOver _)
  | raw => exact .ite (fun _ => .next (StageWork.handedOver {} _)) fun _ => .fault _

/-- Each of these stages leaves the rest alone and hands over to the next. -/
theorem stageStep_handedOver {s : State} {f g : Stage} (hf : s.status.stage = f) (h : NextStage f g) :
    AllNext (HandedOver s g) (stageStep s) := by
  unfold stageStep
  rw [hf]
  cases h with
  | sample => exact .next (StageWork.handedOver {} _)
  | generate =>
    exact .ite (fun _ => .next (StageWork.handedOver {} _)) fun _ =>
      .ite (fun _ => .next ((gen_stageWork s).handedOver _)) fun _ => .fault _
  | control => exact .next (stageControl_handedOver s)
  | encode => exact stageEncode_handedOver s

/-! ### A CYCLE1 cycle in progress -/

/-- The CYCLE1 cycle that the command began in `s` stands in `u` at the stage `g`, with no request in flight
and the turns `turns` to come; nothing has been decoded or counted yet. -/
structure InCycle1 (s : State) (g : Stage) (turns : List Turn) (u : State) : Prop where
  inv : Inv u
  agenda : u.env.agenda = turns
  released : u.env.resetPin = false
  xfer : u.xfer = .none
  oneShot : u.oneShot = true
  stage : u.status.stage = g
  cfg : u.cfg = s.cfg
  fb : u.fb = s.fb
  seq : u.seq = s.seq
  cycleCnt : u.cycleCnt = s.cycleCnt
  ckerrCnt : u.ckerrCnt = s.ckerrCnt

section
variable {s u : State} {g : Stage} {rest : List Turn}

theorem InCycle1.atStage (h : InCycle1 s g (.engine :: rest) u) : AtStage g rest u :=
  ⟨⟨h.agenda, h.released⟩, h.xfer, .inr h.oneShot, .inr h.oneShot, h.stage⟩

theorem InCycle1.initialized {turns : List Turn} (h : InCycle1 s g turns u) :
    u.status.state = .initialized :=
  (h.inv.oneShot h.oneShot).1

theorem InCycle1.bytesNeeded_eq {turns : List Turn} (h : InCycle1 s g turns u) :
    bytesNeeded u = bytesNeeded s := by
  rw [bytesNeeded, h.cfg]
  rfl

/-- The Engine's turn at a stage before the request takes the cycle to the next stage. -/
theorem InCycle1.handOver {g' : Stage} (h : InCycle1 s g (.engine :: rest) u) (hg : NextStage g g') :
    ∃ v, step u = .next v ∧ InCycle1 s g' rest v := by
  obtain ⟨v, hv⟩ := invStatesProceed u h.inv
  have hwork := stageStep_handedOver (s := scheduled rest u) h.stage hg v (step_stage h.atStage ▸ hv)
  exact ⟨v, hv, {
    inv := stepKeepsInv u v h.inv hv
    agenda := congrArg Env.agenda hwork.env
    released := (congrArg Env.resetPin hwork.env).trans h.released
    xfer := hwork.xfer.trans h.xfer
    oneShot := hwork.oneShot.trans h.oneShot
    stage := hwork.stage
    cfg := hwork.cfg.trans h.cfg
    fb := hwork.fb.trans h.fb
    seq := hwork.seq.trans h.seq
    cycleCnt := hwork.cycleCnt.trans h.cycleCnt
    ckerrCnt := hwork.ckerrCnt.trans h.ckerrCnt }⟩

/-- The request and its answer take the cycle from EXCHANGE to DECODE, with the bytes received (R134). -/
theorem InCycle1.exchanged {rx : List Byte}
    (h : InCycle1 s .exchange (.engine :: .transport (.ok rx) :: rest) u) (hrx : rx.length ≤ 128) :
    ∃ v w, step u = .next v ∧ step v = .next w ∧ InCycle1 s .decode rest w ∧
      w.rxLen.toNat = rx.length ∧ memRead w.rxbuf = fun k => rx.getD k 0 := by
  obtain ⟨hfit, -⟩ := h.inv.frame (.inr h.oneShot) h.stage
  obtain ⟨tx, hrequest, -⟩ := exchangeRequest u _ h.atStage hfit
  obtain ⟨hok, -⟩ := exchangeAnswer (request (.exchange tx) (scheduled (.transport (.ok rx) :: rest) u))
    rest (.ok rx) tx ⟨rfl, h.released⟩ rfl
  obtain ⟨m, hanswer, -, hm⟩ := hok rx rfl hrx
  refine ⟨_, _, hrequest, hanswer, ?_, ?_, funext hm⟩
  · exact { h with
      inv := stepKeepsInv _ _ (stepKeepsInv u _ h.inv hrequest) hanswer
      agenda := rfl, xfer := rfl, stage := rfl }
  · rw [BitVec.toNat_ofNat]
    omega

end

/-! ### The run of CYCLE1 -/

theorem run_succ {s u : State} (h : step s = .next u) (k : Nat) :
    Sys2Proof.core.run (k + 1) s = Sys2Proof.core.run k u := by
  have hcore : Sys2Proof.core.step s = .next u := h
  simp only [Host.Core.run, hcore]

/-- The command's first turn begins the cycle at SAMPLE (R144). -/
theorem Inv.cycle1Begins {s : State} {rest : List Turn} (h : Inv s) (hturn : NextTurn .engine rest s)
    (hs : s.status.state = .initialized) (hx : s.xfer = .none) (ho : s.oneShot = false)
    (hp : s.pending = some 0x54) (hc : ¬ Cycle1Refused s) :
    ∃ u, step s = .next u ∧ InCycle1 s .sample rest u := by
  have hword : decodeWord 0x54 = .ok .cycle1 := rfl
  have hstep : step s = .next (setStage .sample { scheduled rest s with oneShot := true }) := by
    rw [step_command hturn hx ho hp, commandStep_ok hword]
    exact exec_cycle1 (s := scheduled rest s) hs hc
  exact ⟨_, hstep, {
    inv := stepKeepsInv s _ h hstep, agenda := rfl, released := hturn.2, xfer := hx, oneShot := rfl
    stage := rfl, cfg := rfl, fb := rfl, seq := rfl, cycleCnt := rfl, ckerrCnt := rfl }⟩

/-- Seven turns take a CYCLE1 command to DECODE, with the bytes received. -/
theorem Inv.cycle1ReachesDecode {s : State} {rx : List Byte} {rest : List Turn} (h : Inv s)
    (hpin : s.env.resetPin = false) (hs : s.status.state = .initialized) (hx : s.xfer = .none)
    (ho : s.oneShot = false) (hp : s.pending = some 0x54) (hc : ¬ Cycle1Refused s)
    (hrx : rx.length ≤ 128)
    (hag : s.env.agenda = .engine :: .engine :: .engine :: .engine :: .engine :: .engine ::
      .transport (.ok rx) :: rest) :
    ∃ u, (∀ k, Sys2Proof.core.run (k + 7) s = Sys2Proof.core.run k u) ∧ InCycle1 s .decode rest u ∧
      u.rxLen.toNat = rx.length ∧ memRead u.rxbuf = fun k => rx.getD k 0 := by
  obtain ⟨u1, hstep1, hsample⟩ := h.cycle1Begins ⟨hag, hpin⟩ hs hx ho hp hc
  obtain ⟨u2, hstep2, hgenerate⟩ := hsample.handOver .sample
  obtain ⟨u3, hstep3, hcontrol⟩ := hgenerate.handOver .generate
  obtain ⟨u4, hstep4, hencode⟩ := hcontrol.handOver .control
  obtain ⟨u5, hstep5, hexchange⟩ := hencode.handOver .encode
  obtain ⟨u6, u7, hstep6, hstep7, hdecode⟩ := hexchange.exchanged hrx
  refine ⟨u7, fun k => ?_, hdecode⟩
  rw [run_succ hstep1, run_succ hstep2, run_succ hstep3, run_succ hstep4, run_succ hstep5,
    run_succ hstep6, run_succ hstep7]

/-- Settles O42: seven turns reach DECODE with the counters and the feedback of `s`; the eighth is the end of
the cycle, in the three cases of `decodeStageEndsCycle1`. -/
theorem cycle1RunsToEnd : Obligations.Cycle1RunsToEnd := by
  intro s rx rest hinv hpin hs hx ho hp hc hrx hag valid
  obtain ⟨u, hrun, hdecode, hlen, hbytes⟩ := hinv.cycle1ReachesDecode hpin hs hx ho hp hc hrx hag
  obtain ⟨hinvalid, hshort, hdecoded⟩ :=
    decodeStageEndsCycle1 u rest hdecode.atStage hdecode.oneShot (hlen.trans_le hrx)
  rw [hbytes, hlen] at hinvalid hshort hdecoded
  rw [hdecode.bytesNeeded_eq] at hshort hdecoded
  by_cases hv : valid
  case neg =>
    refine ⟨_, (hrun 1).trans (run_succ (hinvalid hv) 0), rfl, hdecode.xfer, rfl, rfl, rfl, rfl,
      fun hvs => absurd hvs.1 hv, fun _ => ⟨hdecode.initialized, rfl, ?_⟩, fun hvd => absurd hvd.1 hv,
      fun _ => ⟨?_, hdecode.seq, hdecode.fb⟩⟩
    · exact congrArg (· + 1) hdecode.cycleCnt
    · exact congrArg (· + 1) hdecode.ckerrCnt
  case pos =>
    by_cases hbelow : rx.length < bytesNeeded s
    case pos =>
      exact ⟨_, (hrun 1).trans (run_succ (hshort hv hbelow) 0), rfl, rfl, rfl, rfl, rfl, rfl,
        fun _ => ⟨rfl, rfl, rfl, rfl, hdecode.cycleCnt, hdecode.seq, hdecode.fb⟩,
        fun hn => absurd ⟨hv, hbelow⟩ hn, fun hvd => absurd hvd.2 (Nat.not_le_of_lt hbelow),
        fun hn => absurd hv hn⟩
    case neg =>
      have hneed : bytesNeeded s ≤ rx.length := Nat.le_of_not_lt hbelow
      refine ⟨_, (hrun 1).trans (run_succ (hdecoded hv hneed) 0), rfl, hdecode.xfer, rfl, rfl, rfl, rfl,
        fun hvs => absurd hvs.2 hbelow, fun _ => ⟨hdecode.initialized, rfl, ?_⟩, fun _ => ⟨?_, ?_⟩,
        fun hn => absurd hv hn⟩
      · exact congrArg (· + 1) hdecode.cycleCnt
      · exact congrArg (· + 1) hdecode.seq
      · exact (decodedFeedback_congr rfl rfl rfl).symm

end Sys2Proof.Machine
end

section
/-! PROOFS. The transitions of the loop state (`45_loop.md` R125): which step makes each of them, and that no
other step changes the state. -/

namespace Sys2Proof.Machine

/-- The transitions of R125 from `s` to `t`, each with its cause; a hardware reset is apart. -/
inductive Transition (s t : State) : Prop
  | kept (h : t.status.state = s.status.state)
  /-- INIT and the answer OK to its OPEN (R138) -/
  | opened (hs : s.status.state = .idle) (hx : s.xfer = .opening) (hp : s.pending = some 0x50)
      (ht : t.status.state = .initialized) (hcode : t.err.cmdErr = .none)
  /-- INIT and an answer of failure (R138, R147) -/
  | openFailed (hs : s.status.state = .idle) (hx : s.xfer = .opening) (hp : s.pending = some 0x50)
      (ht : t.status.state = .stopped) (hcode : t.err.fatalCode = .openFail ∨ t.err.fatalCode = .initFail)
  /-- START (R140) -/
  | started (hs : s.status.state = .initialized) (ht : t.status.state = .running)
      (hp : s.pending = some 0x51)
  /-- STOP in INITIALIZED and the answer to its CLOSE (R129, R141) -/
  | linkClosed (hs : s.status.state = .initialized) (ht : t.status.state = .stopped)
      (hx : s.xfer = .closing) (ha : s.afterClose = .stopped) (hp : s.pending = some 0x52)
  /-- the failed EXCHANGE of a CYCLE1 cycle (R134, R147) -/
  | cycle1ExchangeFailed (hs : s.status.state = .initialized) (ht : t.status.state = .stopped)
      (ho : s.oneShot = true) (hp : s.pending = some 0x54) (hx : ∃ tx, s.xfer = .exchange tx)
      (hcode : t.err.fatalCode = .exchangeFail)
  /-- the short frame of a CYCLE1 cycle (R135, R147) -/
  | cycle1Unpack (hs : s.status.state = .initialized) (ht : t.status.state = .stopped)
      (ho : s.oneShot = true) (hp : s.pending = some 0x54) (hg : s.status.stage = .decode)
      (hcode : t.err.fatalCode = .unpack)
  /-- the answer to the boundary's CLOSE (R128, R129) -/
  | loopClosed (hs : s.status.state = .running) (ht : t.status.state = .stopped)
      (hx : s.xfer = .closing) (hq : s.status.stopReq = true)
  /-- the failed EXCHANGE of the loop (R134, R147) -/
  | loopExchangeFailed (hs : s.status.state = .running) (ht : t.status.state = .stopped)
      (hx : ∃ tx, s.xfer = .exchange tx) (hcode : t.err.fatalCode = .exchangeFail)
  /-- the short frame of the loop (R135, R147) -/
  | loopUnpack (hs : s.status.state = .running) (ht : t.status.state = .stopped)
      (hg : s.status.stage = .decode) (hcode : t.err.fatalCode = .unpack)
  /-- RESET in STOPPED (R143) -/
  | cleared (hs : s.status.state = .stopped) (ht : t.status.state = .idle) (hp : s.pending = some 0x53)
  /-- RESET in INITIALIZED and the answer to its CLOSE (R129, R143) -/
  | clearedByClose (hs : s.status.state = .initialized) (ht : t.status.state = .idle)
      (hx : s.xfer = .closing) (ha : s.afterClose = .idle) (hp : s.pending = some 0x53)

/-! ### The Engine -/

/-- The transition of an executed command, whose word is pending. -/
theorem Executed.transition {s t : State} {i : Instr} {w : Word} (h : Executed s i t)
    (hp : s.pending = some w) (hi : decodeWord w = .ok i) : Transition s t := by
  have hpending (hmask : (matchMask i).2 = 0xFFFFFFFF) : s.pending = some (Sys2Proof.encode i) := by
    rw [hp, word_of_decodeWord hi hmask]
  cases h with
  | ends | init | stopLoop | stopLink | resetLink | cycle1 => exact .kept rfl
  | data _ u _ hw => exact .kept hw.state
  | start hs => exact .started hs rfl (hpending rfl)
  | reset hs =>
    rcases hs with hs | hs
    · exact .kept hs.symm
    · exact .cleared hs rfl (hpending rfl)

theorem commandStep_transition {s : State} {w : Word} (hp : s.pending = some w) :
    AllNext (Transition s) (commandStep w s) := by
  cases hi : decodeWord w with
  | ok i =>
    rw [commandStep_ok hi]
    exact fun t ht => (exec_executes i s t ht).transition hp hi
  | error e => rw [commandStep_error hi]; exact .next (.kept rfl)

theorem stageBoundary_state (s : State) : (stageBoundary s).status.state = s.status.state := by
  unfold stageBoundary
  split <;> rfl

theorem stagePace_state (s : State) : (stagePace s).status.state = s.status.state := by
  unfold stagePace
  split <;> rfl

theorem afterDecode_state (s : State) : (afterDecode s).status.state = s.status.state := by
  unfold afterDecode
  split
  · rfl
  · rw [lateCheck_status]
    rfl

/-- The one stage that can leave the loop state is DECODE, by the fatal error of a short frame (R135). -/
theorem stageDecode_state (s : State) :
    (stageDecode s).status.state = s.status.state ∨
      (stageDecode s).status.state = .stopped ∧ (stageDecode s).err.fatalCode = .unpack := by
  unfold stageDecode
  dsimp only
  split
  · exact .inl (afterDecode_state _)
  · split
    · exact .inr (by simp)
    · exact .inl (afterDecode_state _)

/-- A cycle is the loop's in RUNNING, or CYCLE1's in INITIALIZED (R126). -/
theorem Inv.cycle_cases {s : State} (h : Inv s) (hcycle : cycleActive s) :
    s.status.state = .running ∨
      s.status.state = .initialized ∧ s.oneShot = true ∧ s.pending = some 0x54 := by
  rcases hcycle with hs | ho
  · exact .inl hs
  · obtain ⟨hs, hp, -⟩ := h.oneShot ho
    exact .inr ⟨hs, ho, hp⟩

theorem stageDecode_transition {s : State} (h : InStage s) (hg : s.status.stage = .decode) :
    Transition s (stageDecode s) := by
  rcases stageDecode_state s with hkept | ⟨ht, hcode⟩
  · exact .kept hkept
  · rcases h.inv.cycle_cases h.cycle with hs | ⟨hs, ho, hp⟩
    · exact .loopUnpack hs ht hg hcode
    · exact .cycle1Unpack hs ht ho hp hg hcode

theorem stageStep_transition {s : State} (h : InStage s) :
    AllNext (Transition s) (stageStep s) := by
  have hover {f g : Stage} (hf : s.status.stage = f) (h : NextStage f g) :
      AllNext (Transition s) (stageStep s) :=
    fun t ht => .kept (stageStep_handedOver hf h t ht).state
  cases hg : s.status.stage with
  | boundary => rw [stageStep_boundary hg]; exact .next (.kept (stageBoundary_state s))
  | sample => exact hover hg .sample
  | generate => exact hover hg .generate
  | control => exact hover hg .control
  | encode => exact hover hg .encode
  | exchange =>
    rw [stageStep_exchange hg]
    exact .ite (fun _ => .next (.kept rfl)) fun _ => .fault _
  | decode =>
    unfold stageStep
    rw [hg]
    exact .next (stageDecode_transition h hg)
  | pace => rw [stageStep_pace hg]; exact .next (.kept (stagePace_state s))

theorem engineTurn_transition {s : State} (h : Inv s) : AllNext (Transition s) (engineTurn s) := by
  rcases engineTurn_cases s with ⟨-, he⟩ | ⟨w, -, hp, -, he⟩ | ⟨hx, -, he⟩ <;> rw [he]
  · exact .next (.kept rfl)
  · exact commandStep_transition hp
  · exact .ite (fun ha => stageStep_transition ⟨h, hx, (loopActive_iff s).mp ha⟩)
      fun _ => .next (.kept rfl)

/-! ### The Transport -/

theorem fatal_state (c : ErrCode) (g : Stage) (s : State) :
    (fatal c g s).status.state = .stopped := by simp

theorem fatal_fatalCode (c : ErrCode) (g : Stage) (s : State) :
    (fatal c g s).err.fatalCode = c := by simp

theorem closeDone_state (s : State) : (closeDone s).status.state = .stopped := by
  rw [closeDone_eq]
  split <;> rfl

/-- A failed EXCHANGE ends the cycle that made it (R134). -/
theorem transition_of_exchangeFail {s t : State} {tx : List Byte} (h : Inv s)
    (hx : s.xfer = .exchange tx) (ht : t.status.state = .stopped)
    (hcode : t.err.fatalCode = .exchangeFail) : Transition s t := by
  obtain ⟨hcycle, -⟩ := h.exchange tx hx
  rcases h.cycle_cases hcycle with hs | ⟨hs, ho, hp⟩
  · exact .loopExchangeFailed hs ht ⟨tx, hx⟩ hcode
  · exact .cycle1ExchangeFailed hs ht ho hp ⟨tx, hx⟩ hcode

/-- Any answer to a CLOSE that leads to STOPPED stops the loop or closes STOP's link (R129). -/
theorem transition_of_closed {s t : State} (h : Inv s) (hx : s.xfer = .closing)
    (ha : s.afterClose = .stopped) (ht : t.status.state = .stopped) : Transition s t := by
  obtain ⟨-, ⟨hs, hp, -⟩ | ⟨-, -, hidle⟩ | ⟨hs, -, hq, -⟩⟩ := h.closing hx
  · exact .linkClosed hs ht hx ha hp
  · exact nomatch ha.symm.trans hidle
  · exact .loopClosed hs ht hx hq

/-- A CLOSE that leads to IDLE is that of a RESET (R143). -/
theorem transition_of_clearedByClose {s t : State} (h : Inv s) (hx : s.xfer = .closing)
    (ha : s.afterClose = .idle) (ht : t.status.state = .idle) : Transition s t := by
  obtain ⟨-, ⟨-, -, hstop⟩ | ⟨hs, hp, -⟩ | ⟨-, -, -, hstop⟩⟩ := h.closing hx
  · exact nomatch ha.symm.trans hstop
  · exact .clearedByClose hs ht hx ha hp
  · exact nomatch ha.symm.trans hstop

theorem transportTurn_transition {s : State} (h : Inv s) (a : Answer) :
    Transition s (transportTurn a s) := by
  rcases transportTurn_cases a s with ⟨-, e⟩ | ⟨hx, hopen⟩ | ⟨⟨tx, hx⟩, ⟨rx, -, e⟩ | e⟩ |
    ⟨hx, ⟨ha, e⟩ | ⟨ha, e | e⟩⟩
  · rw [e]; exact .kept rfl
  · obtain ⟨hs, hp, -⟩ := h.opening hx
    rcases hopen with e | e | e <;> rw [e]
    · exact .opened hs hx hp rfl rfl
    · exact .openFailed hs hx hp (fatal_state _ _ s) (.inl (fatal_fatalCode _ _ s))
    · exact .openFailed hs hx hp (fatal_state _ _ s) (.inr (fatal_fatalCode _ _ s))
  · rw [e]; exact .kept rfl
  · rw [e]; exact transition_of_exchangeFail h hx (fatal_state _ _ s) (fatal_fatalCode _ _ s)
  · rw [e]; exact transition_of_clearedByClose h hx ha rfl
  · rw [e]; exact transition_of_closed h hx ha (closeDone_state s)
  · rw [e]; exact transition_of_closed h hx ha (fatal_state _ _ s)

/-! ### Every turn -/

/-- A turn makes a transition of R125, or is one of the reset input that resets the block. -/
theorem takeTurn_transition {s t : State} {u : Turn} (h : Inv s) (ht : takeTurn u s = .next t) :
    Transition s t ∨ ∃ b, u = .resetPin b ∧ t = State.resetIn t.env := by
  have hpin (b : Bool) : Transition s (resetPinTurn b s) ∨
      resetPinTurn b s = State.resetIn (resetPinTurn b s).env :=
    (resetPinTurn_cases b s).imp_left fun e => by rw [e]; exact .kept rfl
  cases hp : s.env.resetPin with
  | true =>
    rw [takeTurn_asserted hp] at ht
    cases ht
    cases u with
    | engine | transport | clock => exact .inl (.kept rfl)
    | host a => cases a <;> exact .inl (.kept rfl)
    | resetPin b => exact (hpin b).imp_right fun hr => ⟨b, rfl, hr⟩
  | false =>
    rw [takeTurn_released hp] at ht
    cases u with
    | engine => exact .inl (engineTurn_transition h t ht)
    | host a =>
      cases ht
      obtain ⟨hstate, -⟩ := hostTurn_records a s
      exact .inl (.kept hstate)
    | transport a => cases ht; exact .inl (transportTurn_transition h a)
    | clock x => cases ht; exact .inl (.kept rfl)
    | resetPin b => cases ht; exact (hpin b).imp_right fun hr => ⟨b, rfl, hr⟩

/-- Settles O56: each turn's transition is its line of the table; what is left is the hardware reset. -/
theorem stateTransitions : Obligations.StateTransitions := by
  intro s t hinv hstep
  obtain ⟨u, e, hturn, hnow, hpin⟩ := step_turn hstep
  rcases takeTurn_transition (hinv.withEnv e hnow) hturn with htransition | ⟨b, hb, ht⟩
  case inr =>
    exact .inr (.inr (.inr (.inr (.inr (.inr (.inr ⟨⟨b, hpin b hb⟩, ht⟩))))))
  case inl =>
    cases htransition with
    | kept h => exact .inl h
    | opened hs hx hp ht hcode => exact .inr (.inl ⟨hs, hx, hp, .inl ⟨ht, hcode⟩⟩)
    | openFailed hs hx hp ht hcode => exact .inr (.inl ⟨hs, hx, hp, .inr ⟨ht, hcode⟩⟩)
    | started hs ht hp => exact .inr (.inr (.inl ⟨hs, ht, hp⟩))
    | linkClosed hs ht hx ha hp => exact .inr (.inr (.inr (.inl ⟨hs, ht, .inl ⟨hx, ha, hp⟩⟩)))
    | cycle1ExchangeFailed hs ht ho hp hx hcode =>
      exact .inr (.inr (.inr (.inl ⟨hs, ht, .inr ⟨ho, hp, .inl ⟨hx, hcode⟩⟩⟩)))
    | cycle1Unpack hs ht ho hp hg hcode =>
      exact .inr (.inr (.inr (.inl ⟨hs, ht, .inr ⟨ho, hp, .inr ⟨hg, hcode⟩⟩⟩)))
    | loopClosed hs ht hx hq => exact .inr (.inr (.inr (.inr (.inl ⟨hs, ht, .inl ⟨hx, hq⟩⟩))))
    | loopExchangeFailed hs ht hx hcode =>
      exact .inr (.inr (.inr (.inr (.inl ⟨hs, ht, .inr (.inl ⟨hx, hcode⟩)⟩))))
    | loopUnpack hs ht hg hcode =>
      exact .inr (.inr (.inr (.inr (.inl ⟨hs, ht, .inr (.inr ⟨hg, hcode⟩)⟩))))
    | cleared hs ht hp => exact .inr (.inr (.inr (.inr (.inr (.inl ⟨hs, ht, hp⟩)))))
    | clearedByClose hs ht hx ha hp =>
      exact .inr (.inr (.inr (.inr (.inr (.inr (.inl ⟨hs, ht, hx, ha, hp⟩))))))

end Sys2Proof.Machine
end

section
/-! PROOFS. The interrupt output (`60_exceptions.md` R149): the mask of `IE` with `IP` as the OR over the
sources. -/

namespace Sys2Proof.Machine

theorem and_ne_zero_iff_exists_getLsbD {w : Nat} {x y : BitVec w} :
    x &&& y ≠ 0 ↔ ∃ i : Fin w, x.getLsbD i.val = true ∧ y.getLsbD i.val = true := by
  constructor
  · intro hne
    by_contra hnone
    refine hne (BitVec.eq_of_getLsbD_eq fun i hi => ?_)
    have hbit : ¬ (x.getLsbD i = true ∧ y.getLsbD i = true) := fun h => hnone ⟨⟨i, hi⟩, h⟩
    simpa using hbit
  · rintro ⟨i, hx, hy⟩ hzero
    have hbit : (x &&& y).getLsbD i.val = true := by rw [BitVec.getLsbD_and, hx, hy, Bool.and_self]
    simp [hzero] at hbit

theorem irq_eq_true_iff (s : State) : irq s = true ↔ s.cfg.ie &&& s.ip ≠ 0 := bne_iff_ne

/-- Settles O50: the masked register is nonzero exactly when both registers have a bit in common. -/
theorem irqIsEnabledPending : Obligations.IrqIsEnabledPending := fun s =>
  (irq_eq_true_iff s).trans and_ne_zero_iff_exists_getLsbD

end Sys2Proof.Machine
end

section
/-! PROOFS. The block right after reset (`70_reset_and_hazards.md` R161): what each kind of register reads
as, and the invariant. -/

namespace Sys2Proof.Machine

/-! ### What a reset field reads as -/

@[simp] theorem statusWord_reset : statusWord Status.reset = 0 := rfl

@[simp] theorem errWord_reset : errWord ErrReg.reset = 0 := rfl

/-- The empty list is the form of both buffers right after reset. -/
@[simp] theorem bufWord_nil (w : Nat) : bufWord [] w = 0 := by
  have hbyte (k : Nat) : memRead [] k = 0 := rfl
  rw [bufWord, hbyte, hbyte, hbyte, hbyte]
  rfl

/-- Every window with one register per channel holds `Six.all 0`. -/
theorem readReg_reset_channel (ch : Channel) :
    readReg State.reset (.setpoint ch) = 0 ∧ readReg State.reset (.tgt ch) = 0 ∧
    readReg State.reset (.cmdv ch) = 0 ∧ readReg State.reset (.fbPos ch) = 0 ∧
    readReg State.reset (.fbVel ch) = 0 ∧ readReg State.reset (.fbCur ch) = 0 ∧
    readReg State.reset (.rawPV ch) = 0 ∧ readReg State.reset (.rawC ch) = 0 := by
  have hword : (Six.all (0 : Word)).get ch = 0 := Six.get_all 0 ch
  have hbyte : ((Six.all (0 : Byte)).get ch).setWidth 32 = (0 : Word) :=
    (congrArg (BitVec.setWidth 32) (Six.get_all 0 ch)).trans (BitVec.setWidth_zero 32 8)
  exact ⟨hword, hword, hword, hword, hword, hword, hword, hbyte⟩

theorem readReg_reset_touch (i : Fin 64) : readReg State.reset (.touch i) = 0 := by
  have hentry : Feedback.reset.touch.get i = 0 := Vector.getElem_replicate i.isLt
  exact (congrArg (BitVec.setWidth 32) hentry).trans (BitVec.setWidth_zero 32 12)

theorem irq_reset : irq State.reset = false := rfl

/-! ### The obligations -/

/-- Settles O51: the registers outside the windows and the hidden fields are read off the reset state; a
window holds 0 in every entry, a buffer in every byte. -/
theorem resetValues : Obligations.ResetValues := by
  refine ⟨rfl, rfl, statusWord_reset, rfl, rfl, errWord_reset, rfl, rfl, rfl, rfl, rfl, rfl, rfl, rfl, rfl,
    rfl, rfl, rfl, rfl, rfl, rfl, rfl, rfl, rfl, rfl, rfl, rfl, ?channels, ?touch, ?txBuffer, ?rxBuffer,
    rfl, rfl, rfl, rfl, rfl, rfl, irq_reset⟩
  case channels => exact readReg_reset_channel
  case touch => exact readReg_reset_touch
  case txBuffer => exact fun w => bufWord_nil w.val
  case rxBuffer => exact fun w => bufWord_nil w.val

/-- Settles O53: the reset state rests in IDLE in any surroundings. -/
theorem invAtReset : Obligations.InvAtReset := inv_resetIn Env.reset

end Sys2Proof.Machine
end
